-- ==== Sys2Proof/Word.lean ====
section
/-! DEFINITION. The words of the hall loop: bytes, and numbers of two bytes sent high byte first (R142). -/

namespace Sys2Proof

/-- One byte of a telegram (R142). -/
abbrev Byte := BitVec 8

/-- The byte that carries the number `n` (its value modulo 256). -/
abbrev byte (n : Nat) : Byte := BitVec.ofNat 8 n

/-- The number carried by two bytes, high byte first (R142). -/
def word16 (hi lo : Byte) : Nat := hi.toNat * 256 + lo.toNat

end Sys2Proof
end

