-- ==== Sys2Proof/Config.lean ====
section
/-! DEFINITION. What is fixed for the machine (sizes and times the spec gives as numbers) and the free values, which the spec leaves open. -/

namespace Sys2Proof.Config

/-- Zones (Table 1-1). -/
abbrev zoneCount : Nat := 64
/-- Detector entries (Table 1-1). -/
abbrev detectorCount : Nat := 256
/-- Exits (Table 1-1). -/
abbrev exitCount : Nat := 32
/-- Sign entries (Table 1-1). -/
abbrev signCapacity : Nat := 192
/-- Place entries (Table 1-1). -/
abbrev placeCapacity : Nat := 256
/-- Passage entries (Table 1-1). -/
abbrev passageCapacity : Nat := 1024
/-- Boundary entries (Table 1-1). -/
abbrev boundaryCount : Nat := 8
/-- Dedicated pool slots of each class (R150). -/
abbrev dedicatedSlots : Nat := 2
/-- Shared pool slots (R150). -/
abbrev sharedSlots : Nat := 8
/-- Entries of the request queue (R164). -/
abbrev requestQueueLimit : Nat := 4
/-- Entries of the round check list (R160). -/
abbrev roundListLimit : Nat := 10
/-- Panel line lockout in ms (R131). -/
abbrev lockoutMs : Nat := 20
/-- Time for which a retired address is held, in ms (R146). -/
abbrev retiredMs : Nat := 2000
/-- The cost of an unreachable place (R64). -/
abbrev unreachable : Nat := 65535
/-- Part id returned by STATUS_READ page 0 (Table 8-4). -/
abbrev partId : Nat := 71
/-- Revision returned by STATUS_READ page 0 (Table 8-4). -/
abbrev revision : Nat := 1

/-- FREE VALUE (log 11): at its `n`-th use, does an INCIDENT capture stamp the mode as it stands after the mode controller has acted on
the same escalation? R38 gives the two blocks no order. -/
opaque incidentAfterMode : Nat → Bool

/-- FREE VALUE (log 11): at its `n`-th use, does an INCIDENT capture that stamps the new mode stamp the sign counts as they stand after the
presentation rule of the mode change? R38 and R122 give the two blocks no order. -/
opaque incidentAfterSigns : Nat → Bool

/-- FREE VALUE (log 11): at its `n`-th use, does an INCIDENT capture stamp the exit usabilities as they stand after the recomputation's
own usability step (R40)? R38 and R40 give the two no order. -/
opaque incidentAfterUsability : Nat → Bool

/-- FREE VALUE (log 11): at its `n`-th use, does an EVAC_LINE capture stamp the sign counts as they stand after the presentation rule of
the same mode change? R122 gives the two blocks no order. -/
opaque evacLineAfterSigns : Nat → Bool

/-- FREE VALUE (log 35): the check computed over the contents of the stored image (R184). The spec gives no algorithm for it. -/
opaque imageCheck {α : Type} (contents : α) : Nat

end Sys2Proof.Config
end

