-- ==== Sys2Proof/Syntax.lean ====
section
/-! DEFINITION. The commands of the MG-710: one constructor of `Instr` for each row of spec/opcode_table.json, with the operands that
come from outside the block at that step. A request row takes its operands from the head of the request queue (log 3). -/

namespace Sys2Proof

/-- The four telegram classes, in the order of their codes 0..3 (R142). -/
inductive TClass where
  | haz | sign | mgmt | ctl
deriving DecidableEq, Repr

/-- The kind of a credit or of a pool slot: dedicated to one class, or shared (R150). -/
inductive CreditKind where
  | dedicated (cls : TClass)
  | shared
deriving DecidableEq, Repr

/-- One of the two lanes of a forward lane pair (R137). -/
inductive Lane where
  | lane0 | lane1
deriving DecidableEq, Repr

/-- The two wired panel lines (R131). -/
inductive PanelLineName where
  | evacIn | holdIn
deriving DecidableEq, Repr

/-- The level of a panel line; the lines are active low, so ACTIVE is a low level (R131). -/
inductive Level where
  | active | inactive
deriving DecidableEq, Repr

/-- The commands: one constructor for each row of spec/opcode_table.json. -/
inductive Instr where
  /-- POWER_RESET (R189): Applying supply puts every block at its POWER reset values and begins start-up. -/
  | powerReset
  /-- PIN_RESET (R189): Holding RESET_N low for 1 ms puts every block at its reset values, and they are held there until RESET_N rises. -/
  | pinReset
  /-- START_UP (R188): Start-up begins, when supply and clock are stable or RESET_N rises: the straps are read, the ports train and the start-up read of the store begins. `straps`: the levels of ADDR7..ADDR0 as read. -/
  | startUp (straps : Byte)
  /-- START_UP_READ_END (R188): The start-up read ends: a valid image is loaded and activated, or the tables stay empty; the mode is set and the start wait ends. `checkOk`: the cells give the image back as it was written, so that its check can match (log 8). -/
  | startUpReadEnd (checkOk : Bool)
  /-- EVAC_IN_FALLING_EDGE (R132): An accepted EVAC_IN falling edge sets the EVAC demand and enters EVAC, or the fire path in MAINT. -/
  | evacInFallingEdge
  /-- EVAC_IN_RISING_EDGE (R132): An accepted EVAC_IN rising edge clears the EVAC demand. -/
  | evacInRisingEdge
  /-- HOLD_IN_FALLING_EDGE (R133): An accepted HOLD_IN falling edge starts the freeze in STANDBY or QUIET when the store is not SAVING. -/
  | holdInFallingEdge
  /-- HOLD_IN_RISING_EDGE (R133): An accepted HOLD_IN rising edge ends a freeze that is in effect. -/
  | holdInRisingEdge
  /-- PANEL_LINE_LOCKOUT_EXPIRY (R131): A panel line's 20 ms lockout expires, and a level that differs from the accepted level is accepted as an edge. -/
  | panelLineLockoutExpiry (line : PanelLineName)
  /-- TELEGRAM_ARRIVAL (R147): A telegram received whole at Port A is checked, given a pool slot by its credit and sorted to be stripped, taken or forwarded. `bytes`: header, payload and check as received, in the order of Table 7-3. -/
  | telegramArrival (bytes : List Byte)
  /-- LANE_ACTIVITY_APPEARS (R137): Activity appears on a Port A lane in DOWN, and the lane enters RESTORING with its restore timer started. -/
  | laneActivityAppears (lane : Lane)
  /-- LANE_LOSS_TIMEOUT (R137): A Port A lane shows no activity for the lane loss time and goes DOWN. `partlyReceiving`: a telegram was being received and is cut off by the loss (log 10). -/
  | laneLossTimeout (lane : Lane) (partlyReceiving : Bool)
  /-- LANE_RESTORE_EXPIRY (R137): A lane's restore timer expires and the lane becomes UP, which can bring Port A through training to an up state. -/
  | laneRestoreExpiry (lane : Lane)
  /-- TRAINING_REQUEST_SEEN (R138): A training request seen on a Port A lane in UP sends the port back to TRAINING. `idleFillSeen`: idle fill has been seen on the lane since Port A last sent a grant (log 9). -/
  | trainingRequestSeen (lane : Lane) (idleFillSeen : Bool)
  /-- LANE_STATUS_REPORT (R140): Lane status from the downstream node updates the Port B lane states and port state. The lanes the downstream node reports UP. -/
  | laneStatusReport (lane0Up lane1Up : Bool)
  /-- RETURN_LANE_SILENCE (R140): The Port B return lane is silent for the lane loss time, so both lanes are taken as DOWN. -/
  | returnLaneSilence
  /-- CREDIT_GRANT (R152): A grant taken on the return lane sets the Port B credit counts, or is held until a lane is reported UP. The four dedicated counts and the shared count. -/
  | creditGrant (haz sign mgmt ctl shared : Byte)
  /-- CREDIT_RETURN (R152): A credit return taken while Port B is up raises the count of its kind by one. -/
  | creditReturn (kind : CreditKind)
  /-- ARBITER_TAKE (R155): With the transmitter idle, the Port B arbiter takes the first sendable telegram in priority order and takes a credit for it. -/
  | arbiterTake
  /-- TRANSMISSION_COMPLETE (R158): A Port B transmission completes, which frees a forwarded telegram's pool slot and returns a credit upstream. -/
  | transmissionComplete
  /-- CREDIT_STALL_EXPIRY (R153): A class's credit stall timer expires, which opens a stall episode and latches LOOP_DEGRADED. -/
  | creditStallExpiry (cls : TClass)
  /-- POOL_SAMPLE (R150): Each millisecond Port A samples its occupied pool slots for the POOL_OCCUPANCY and POOL_ABOVE events. -/
  | poolSample
  /-- CREDIT_WAIT_SAMPLE (R153): Each millisecond every class that waits with no usable credit is counted as CREDIT_WAIT. -/
  | creditWaitSample
  /-- BEAT_TIMER_EXPIRY (R159): The beat timer expires, and a BEAT is placed with the next beat number. -/
  | beatTimerExpiry
  /-- ROUND_LIMIT_EXPIRY (R160): An outstanding beat misses its round limit: BEAT_LOST is counted and the miss count may set LOOP_OPEN. `entry`: position in the round check list, oldest 0. -/
  | roundLimitExpiry (entry : Nat)
  /-- RETIRED_ADDRESS_DROP (R146): The retired address is dropped 2 s after an address change. -/
  | retiredAddressDrop
  /-- UPTIME_TICK (R190): The uptime clock advances by one 100 ms unit. -/
  | uptimeTick
  /-- SILENCE_TIMER_EXPIRY (R32): A detector's silence timer expires: SILENT is set, DETECTOR_FAULT is latched and the zone is recomputed. -/
  | silenceTimerExpiry (detector : Nat)
  /-- WATCH_DECAY_EXPIRY (R35): A zone's watch decay timer expires and the zone is recomputed. -/
  | watchDecayExpiry (zone : Nat)
  /-- SOLVE_TAKE (R60): The solver copies its snapshot, clears the pending flag and computes the penalties and target costs, then sets up tier 1. -/
  | solveTake
  /-- SWEEP (R65): One sweep over the active passages lets places take cheaper routes, and the end of a tier's sweeps moves the solve to the next tier or to balancing. -/
  | sweep
  /-- SOLVE_SELECT (R70): SELECT records one face selection per sign and counts the face gaps. -/
  | solveSelect
  /-- SOLVE_COMMIT (R71): The working solution replaces the committed one, the generation advances and the sign scheduler and boundary exchange are told. -/
  | solveCommit
  /-- RECHECK_EXPIRY (R58): The recheck timer expires and hands a solve trigger to the solver. -/
  | recheckExpiry
  /-- HOLD_TIMER_EXPIRY (R89): A sign's hold timer expires and the sign is re-evaluated. -/
  | holdTimerExpiry (sign : Nat)
  /-- CONFIRM_TIMER_EXPIRY (R98): A sign's confirm timer expires and its no-reply count rises by one. -/
  | confirmTimerExpiry (sign : Nat)
  /-- REFRESH_TIMER_EXPIRY (R93): The refresh timer expires and refresh due becomes yes. -/
  | refreshTimerExpiry
  /-- DEFAULT_REPEAT_EXPIRY (R105): The default repeat timer expires and a SHOW_DEFAULT is placed in its origin slot. -/
  | defaultRepeatExpiry
  /-- AGE_TIMER_EXPIRY (R113): A boundary's age timer expires: the boundary becomes EXPIRED, BOUNDARY_CHANGED is latched and a boundary change is handed to the solver. -/
  | ageTimerExpiry (boundary : Nat)
  /-- ADVERT_PERIOD_EXPIRY (R117): The advert period timer expires and every boundary with a computed advert joins the due set. -/
  | advertPeriodExpiry
  /-- NOTICE_SPACING_EXPIRY (R177): The notice spacing timer expires and the notice unit may offer again. -/
  | noticeSpacingExpiry
  /-- CAPTURE_PERIOD_EXPIRY (R179): The capture period timer expires, which triggers a PERIODIC capture and restarts the timer. -/
  | capturePeriodExpiry
  /-- VALIDATION_END (R21): Validation ends with a pass, which activates the layout, or a failure, which returns it to EDITING, and the completion response becomes due. -/
  | validationEnd
  /-- LAYOUT_RELOAD_END (R24): A layout-only reload ends with ACTIVE and activation, or with NONE and empty layout tables. `checkOk`: the cells give the image back as it was written, so that its check can match (log 8). -/
  | layoutReloadEnd (checkOk : Bool)
  /-- STORE_LOAD_END (R187): A full store load ends, which activates the loaded tables or leaves the layout NONE, and latches STORE_DONE. `checkOk`: the cells give the image back as it was written, so that its check can match (log 8). -/
  | storeLoadEnd (checkOk : Bool)
  /-- STORE_SAVE_END (R185): A store save ends OK or FAILED, the store returns to IDLE and STORE_DONE is latched. `compareOk`: every write compared equal when read back (log 8). -/
  | storeSaveEnd (compareOk : Bool)
  /-- COMPLETION_RESPONSE_PLACEMENT (R169): A due completion response is placed in the response origin slot once that slot is empty. -/
  | completionResponsePlacement
  /-- RESTART_COMPLETE (R174): Every block has taken its RESTART values, and the OK response is placed in the response origin slot. -/
  | restartComplete
  /-- UNKNOWN_KIND (R167): A request of a kind not in the table, or with an empty payload, is answered UNKNOWN_KIND. -/
  | unknownKind
  /-- STATUS_READ (R171): A STATUS_READ request returns status page 0, 1 or 2. -/
  | statusRead
  /-- ENTRY_READ (R172): An ENTRY_READ request returns one table entry or runtime record. -/
  | entryRead
  /-- ENTRY_WRITE_ZONE (R8): A zone entry is written in MAINT, which marks the zone STALE and recomputes it. -/
  | entryWriteZone
  /-- ENTRY_WRITE_DETECTOR (R9): A detector entry is written, which resets its runtime record and recomputes the old and new zones. -/
  | entryWriteDetector
  /-- ENTRY_WRITE_EXIT (R10): An exit entry is written and the change is handed to the solver. -/
  | entryWriteExit
  /-- ENTRY_WRITE_PARAMETER (R11): A parameter value is written, and it takes effect as Table 1-5 gives. -/
  | entryWriteParameter
  /-- ENTRY_WRITE_LAYOUT_HEADER (R13): The layout header counts are written while the layout is EDITING. -/
  | entryWriteLayoutHeader
  /-- ENTRY_WRITE_PLACE (R14): A place entry is written while the layout is EDITING. -/
  | entryWritePlace
  /-- ENTRY_WRITE_PASSAGE (R15): A passage entry is written while the layout is EDITING. -/
  | entryWritePassage
  /-- ENTRY_WRITE_SIGN (R16): A sign entry is written while the layout is EDITING. -/
  | entryWriteSign
  /-- ENTRY_WRITE_BOUNDARY (R17): A boundary entry is written while the layout is EDITING. -/
  | entryWriteBoundary
  /-- ENTRY_WRITE_OTHER_TABLE (R173): An ENTRY_WRITE naming a runtime table, SOLVE_EXIT or an unknown table is answered BAD_TABLE. -/
  | entryWriteOtherTable
  /-- LAYOUT_OPEN (R20): The layout is opened for editing in MAINT, which abandons any solve and withdraws the committed solution. -/
  | layoutOpen
  /-- LAYOUT_CLOSE (R21): LAYOUT_CLOSE is answered ACCEPTED and starts validation of the edited layout. -/
  | layoutClose
  /-- LAYOUT_DISCARD (R24): LAYOUT_DISCARD is answered ACCEPTED and starts a layout-only reload from the store. -/
  | layoutDiscard
  /-- MODE_SET_QUIET (R125): A MODE_SET with target QUIET is checked and may change the mode to QUIET. -/
  | modeSetQuiet
  /-- MODE_SET_STANDBY (R125): A MODE_SET with target STANDBY is checked and may change the mode to STANDBY. -/
  | modeSetStandby
  /-- MODE_SET_MAINT (R125): A MODE_SET with target MAINT is checked and may change the mode to MAINT. -/
  | modeSetMaint
  /-- MODE_SET_EVAC (R125): A MODE_SET with target EVAC enters EVAC, enters the fire path in MAINT, or is held during the start wait. -/
  | modeSetEvac
  /-- EVAC_CANCEL (R126): EVAC_CANCEL leaves EVAC for ALERT or STANDBY unless the EVAC demand or a DENSE zone forbids it. -/
  | evacCancel
  /-- ZONE_RESET (R42): ZONE_RESET clears a zone's latches, its watch timer and eligible FAULT flags, then recomputes the zone. -/
  | zoneReset
  /-- ZONE_ISOLATE_ON (R43): ZONE_ISOLATE with setting on sets the zone's panel isolate flag and recomputes the zone. -/
  | zoneIsolateOn
  /-- ZONE_ISOLATE_OFF (R43): ZONE_ISOLATE with setting off clears the panel isolate flag, and the recomputation may latch the zone from stored conditions. -/
  | zoneIsolateOff
  /-- ZONE_CONFIRM (R44): ZONE_CONFIRM sets the zone's DENSE and SMOKE latches and recomputes the zone. -/
  | zoneConfirm
  /-- EXIT_SET (R46): EXIT_SET stores an exit's panel state and bias, recomputes its usability and hands an escalation or change to the solver. -/
  | exitSet
  /-- SOLVE_NOW (R59): SOLVE_NOW hands a solve trigger to the solver and reports STARTED or PENDING. -/
  | solveNow
  /-- CAPTURE_TAKE (R180): CAPTURE_TAKE triggers a REQUEST capture and reports the slot filled, or 255 where the capture was lost. -/
  | captureTake
  /-- CAPTURE_READ_PART0 (R181): CAPTURE_READ part 0 selects the older filled slot, returns its header and clears the overflow latch. -/
  | captureReadPart0
  /-- CAPTURE_READ_PART1 (R181): CAPTURE_READ part 1 returns the zone states of the slot being read. -/
  | captureReadPart1
  /-- CAPTURE_READ_PART2 (R181): CAPTURE_READ part 2 returns the exits and counts of the slot being read and empties that slot. -/
  | captureReadPart2
  /-- INCIDENT_RELEASE (R179): INCIDENT_RELEASE sets the incident lock to OPEN. -/
  | incidentRelease
  /-- NOTICE_SET (R178): NOTICE_SET replaces the master enable and every cause enable flag. -/
  | noticeSet
  /-- NOTICE_CLEAR (R178): NOTICE_CLEAR clears the named cause latches. -/
  | noticeClear
  /-- COUNTER_SET (R182): COUNTER_SET stores a counter's selection and zeroes that counter. -/
  | counterSet
  /-- COUNTER_READ (R183): COUNTER_READ returns the four counters with their event codes and flags. -/
  | counterRead
  /-- FREEZE (R183): COUNTER_CONTROL action FREEZE sets the frozen flag. -/
  | freeze
  /-- UNFREEZE (R183): COUNTER_CONTROL action UNFREEZE clears the frozen flag. -/
  | unfreeze
  /-- ZERO_ALL (R183): COUNTER_CONTROL action ZERO_ALL sets all four counter values to 0. -/
  | zeroAll
  /-- CLEAR_OVERFLOW (R183): COUNTER_CONTROL action CLEAR_OVERFLOW clears all four overflow flags. -/
  | clearOverflow
  /-- STORE_SAVE (R185): STORE_SAVE is answered ACCEPTED and starts writing the tables to the store image. -/
  | storeSave
  /-- STORE_LOAD (R187): STORE_LOAD in MAINT is answered ACCEPTED and starts a full reload of every table from the store. -/
  | storeLoad
  /-- ADDRESS_TAKE (R146): ADDRESS_TAKE rereads the straps and sets the address, retiring the old one. `straps`: the levels of ADDR7..ADDR0 as read. The request is the head of the request queue. -/
  | addressTake (straps : Byte)
  /-- RESTART (R174): RESTART discards the requests queued behind it and puts every block at its RESTART values. -/
  | restart
  /-- PANEL_LINE_LEVEL_CHANGE (R131): The level of EVAC_IN or HOLD_IN changes while that line is not looked at, during its lockout or the start wait, and the new present level is kept for the next look. -/
  | panelLineLevelChange (line : PanelLineName) (level : Level)
  /-- MODE_SET_BAD_TARGET (R125): A MODE_SET whose target is not QUIET, STANDBY, MAINT or EVAC (for instance code 2, ALERT) is answered BAD_FIELD. -/
  | modeSetBadTarget
  /-- ZONE_ISOLATE_BAD_SETTING (R41): A ZONE_ISOLATE whose setting is neither on nor off is answered BAD_FIELD. -/
  | zoneIsolateBadSetting
  /-- CAPTURE_READ_BAD_PART (R181): A CAPTURE_READ naming a part above 2 is answered BAD_FIELD, and the read progress is left as it was. -/
  | captureReadBadPart
  /-- COUNTER_CONTROL_BAD_ACTION (R183): A COUNTER_CONTROL whose action is above 3 is answered BAD_FIELD. -/
  | counterControlBadAction
deriving DecidableEq, Repr

end Sys2Proof
end

