-- ==== Sys2Proof/WellFormed.lean ====
section
/-! DEFINITION. Which operands a command can carry: indices inside their tables, and no more bytes than a telegram has. -/

namespace Sys2Proof

/-- The operands of a command lie in the ranges the spec gives their objects. A command whose operands do not is never sent by the
world outside; its meaning is total all the same. -/
def Instr.wellFormed : Instr → Bool
  | .telegramArrival bytes => decide (6 ≤ bytes.length) && decide (bytes.length ≤ 38)   -- R142
  | .roundLimitExpiry entry => decide (entry < Config.roundListLimit)                   -- R160
  | .silenceTimerExpiry detector => decide (detector < Config.detectorCount)            -- R27
  | .watchDecayExpiry zone => decide (zone < Config.zoneCount)                          -- R33
  | .holdTimerExpiry sign => decide (sign < Config.signCapacity)                        -- R82
  | .confirmTimerExpiry sign => decide (sign < Config.signCapacity)                     -- R82
  | .ageTimerExpiry boundary => decide (boundary < Config.boundaryCount)                -- R108
  | .powerReset | .pinReset | .startUp _ | .startUpReadEnd _ | .evacInFallingEdge | .evacInRisingEdge | .holdInFallingEdge
  | .holdInRisingEdge | .panelLineLockoutExpiry _ | .laneActivityAppears _ | .laneLossTimeout _ _ | .laneRestoreExpiry _
  | .trainingRequestSeen _ _ | .laneStatusReport _ _ | .returnLaneSilence | .creditGrant _ _ _ _ _ | .creditReturn _
  | .arbiterTake | .transmissionComplete | .creditStallExpiry _ | .poolSample | .creditWaitSample | .beatTimerExpiry
  | .retiredAddressDrop | .uptimeTick | .solveTake | .sweep | .solveSelect | .solveCommit | .recheckExpiry
  | .refreshTimerExpiry | .defaultRepeatExpiry | .advertPeriodExpiry | .noticeSpacingExpiry | .capturePeriodExpiry
  | .validationEnd | .layoutReloadEnd _ | .storeLoadEnd _ | .storeSaveEnd _ | .completionResponsePlacement
  | .restartComplete | .unknownKind | .statusRead | .entryRead | .entryWriteZone | .entryWriteDetector | .entryWriteExit
  | .entryWriteParameter | .entryWriteLayoutHeader | .entryWritePlace | .entryWritePassage | .entryWriteSign
  | .entryWriteBoundary | .entryWriteOtherTable | .layoutOpen | .layoutClose | .layoutDiscard | .modeSetQuiet
  | .modeSetStandby | .modeSetMaint | .modeSetEvac | .evacCancel | .zoneReset | .zoneIsolateOn | .zoneIsolateOff
  | .zoneConfirm | .exitSet | .solveNow | .captureTake | .captureReadPart0 | .captureReadPart1 | .captureReadPart2
  | .incidentRelease | .noticeSet | .noticeClear | .counterSet | .counterRead | .freeze | .unfreeze | .zeroAll
  | .clearOverflow | .storeSave | .storeLoad | .addressTake _ | .restart | .panelLineLevelChange _ _ | .modeSetBadTarget
  | .zoneIsolateBadSetting | .captureReadBadPart | .counterControlBadAction => true

end Sys2Proof
end

