-- ==== Sys2Proof/Decode.lean ====
section
/-! DEFINITION. Commands spelt as words. No row of spec/opcode_table.json gives bits (spec/98_reader.md counts 97 rows unread), so no
word spells a command (log 1). -/

namespace Sys2Proof

/-- The command that a word of `nbits` bits spells by the table: none, since no row of the table gives bits. -/
def decodeTableWord (_nbits _w : Nat) : Option Instr := none

end Sys2Proof
end

