-- ==== Sys2Proof/Machine/State.lean ====
section
/-! DEFINITION. The state of the MG-710: every piece of state the spec gives its blocks (Table 0-1 and the chapters it names), as
plain data, and the state right after a POWER reset. -/

namespace Sys2Proof.Machine

/-! ### Shared forms -/

/-- A timer: `none` stopped, `some ms` running with `ms` milliseconds left (log 4). -/
abbrev Timer := Option Nat

/-- A table or an array of records: (index, entry) pairs with rising indices and no entry equal to the table's empty value, which is
what an unlisted index reads as. -/
abbrev Tab (α : Type) := List (Nat × α)

/-- One value for each telegram class. -/
structure PerClass (α : Type) where
  haz : α
  sign : α
  mgmt : α
  ctl : α
deriving DecidableEq, Repr

/-- Credit counts: one dedicated count for each class and one shared count (R150, R152). -/
structure Credits where
  ded : PerClass Nat
  shared : Nat
deriving DecidableEq, Repr

/-- No credits. -/
abbrev Credits.zero : Credits := ⟨⟨0, 0, 0, 0⟩, 0⟩

/-! ### Table memory (Chapter 1) -/

/-- A zone entry (R3). -/
structure ZoneEntry where
  defined : Bool
  denseQuorum : Nat
  faultLatch : Bool
  wakeOnWatch : Bool
deriving DecidableEq, Repr

/-- The empty zone entry (R3). -/
abbrev ZoneEntry.empty : ZoneEntry := ⟨false, 2, false, false⟩

/-- A detector entry; address 0 marks it unused (R4). -/
structure DetectorEntry where
  address : Nat
  channel : Nat
  zone : Nat
  weight : Nat
deriving DecidableEq, Repr

/-- The empty detector entry (R4). -/
abbrev DetectorEntry.empty : DetectorEntry := ⟨0, 0, 0, 1⟩

/-- An exit entry (R5). -/
structure ExitEntry where
  defined : Bool
  zone : Nat
  baseCost : Nat
  catchmentLimit : Nat
  toneClass : Nat
deriving DecidableEq, Repr

/-- The empty exit entry (R5). -/
abbrev ExitEntry.empty : ExitEntry := ⟨false, 0, 0, 0, 1⟩

/-- The 26 parameters, in the order of their indices (R11, Table 1-5), each in the unit of that table. -/
structure Params where
  panelAddress : Nat
  startMode : Nat
  silenceTime : Nat
  watchDecayTime : Nat
  watchPenalty : Nat
  stalePenalty : Nat
  isolatedPenalty : Nat
  smokePenalty : Nat
  routeCeiling : Nat
  holdTime : Nat
  refreshPeriod : Nat
  confirmTime : Nat
  beatPeriod : Nat
  chaseStep : Nat
  standbyBrightness : Nat
  roundLimit : Nat
  advertPeriod : Nat
  recheckPeriod : Nat
  restartLimit : Nat
  balanceRounds : Nat
  balanceStep : Nat
  noticeSpacing : Nat
  capturePeriod : Nat
  laneLossTime : Nat
  laneRestoreTime : Nat
  creditStallTime : Nat
deriving DecidableEq, Repr

/-- The defaults of Table 1-5 (start mode 1 is STANDBY). -/
abbrev Params.default : Params :=
  { panelAddress := 0, startMode := 1, silenceTime := 90, watchDecayTime := 60, watchPenalty := 40, stalePenalty := 20,
    isolatedPenalty := 60, smokePenalty := 400, routeCeiling := 30000, holdTime := 8, refreshPeriod := 10, confirmTime := 500,
    beatPeriod := 250, chaseStep := 4, standbyBrightness := 6, roundLimit := 200, advertPeriod := 5, recheckPeriod := 60,
    restartLimit := 2, balanceRounds := 2, balanceStep := 50, noticeSpacing := 200, capturePeriod := 0, laneLossTime := 100,
    laneRestoreTime := 1000, creditStallTime := 20 }

/-- The LAYOUT_HEADER entry (R13). -/
structure Header where
  placeCount : Nat
  passageCount : Nat
  signCount : Nat
deriving DecidableEq, Repr

/-- The kind of a place, in code order (R14). -/
inductive PlaceKind where
  | aisle | junction | exit | boundary
deriving DecidableEq, Repr

/-- A place entry (R14). -/
structure PlaceEntry where
  kind : PlaceKind
  zone : Nat
  exitId : Option Nat
  boundary : Option Nat
deriving DecidableEq, Repr

/-- The empty place entry (R14). -/
abbrev PlaceEntry.empty : PlaceEntry := ⟨.aisle, 0, none, none⟩

/-- The direction of a passage, in code order (R15). -/
inductive Direction where
  | twoWay | aToB | bToA
deriving DecidableEq, Repr

/-- A passage entry (R15). -/
structure PassageEntry where
  endA : Nat
  endB : Nat
  length : Nat
  direction : Direction
  via : Option Nat
deriving DecidableEq, Repr

/-- The empty passage entry (R15). -/
abbrev PassageEntry.empty : PassageEntry := ⟨0, 0, 0, .twoWay, none⟩

/-- What leads onward from a place: a passage, or the crossing of a section boundary. Used for the faces of a sign (R16) and for the
next of a solution record (R68). -/
inductive Way where
  | passage (index : Nat)
  | crossing
deriving DecidableEq, Repr

/-- A sign entry (R16). -/
structure SignEntry where
  address : Nat
  unit : Nat
  place : Nat
  faces : List Way
  homeFace : Nat
  fallbackFace : Nat
  toneCapable : Bool
deriving DecidableEq, Repr

/-- The empty sign entry (R16). -/
abbrev SignEntry.empty : SignEntry := ⟨0, 0, 0, [], 0, 0, false⟩

/-- A boundary entry (R17). -/
structure BoundaryEntry where
  defined : Bool
  id : Nat
  place : Nat
  peer : Nat
  crossingCost : Nat
deriving DecidableEq, Repr

/-- The empty boundary entry (R17). -/
abbrev BoundaryEntry.empty : BoundaryEntry := ⟨false, 0, 0, 0, 0⟩

/-- The layout tables (R13 to R17). -/
structure LayoutTables where
  header : Header
  places : Tab PlaceEntry
  passages : Tab PassageEntry
  signs : Tab SignEntry
  boundaries : Tab BoundaryEntry
deriving DecidableEq, Repr

/-- Every layout table at its empty value. -/
abbrev LayoutTables.empty : LayoutTables := ⟨⟨0, 0, 0⟩, [], [], [], []⟩

/-- All tables and the parameter set (Table 1-1). -/
structure Tables where
  zones : Tab ZoneEntry
  detectors : Tab DetectorEntry
  exits : Tab ExitEntry
  params : Params
  layout : LayoutTables
deriving DecidableEq, Repr

/-- Every table empty and every parameter at its default (R1). -/
abbrev Tables.empty : Tables := ⟨[], [], [], Params.default, LayoutTables.empty⟩

/-- The layout lifecycle, in the order R19 lists it. -/
inductive Layout where
  | none | editing | validating | reloading | active
deriving DecidableEq, Repr

/-- The validation record (R21, R171): `failed` no is OK. -/
structure Validation where
  failed : Bool
  check : Nat
  table : Nat
  index : Nat
deriving DecidableEq, Repr

/-! ### Hazard map (Chapter 2) -/

/-- The condition a detector reports, in code order (Table 7-5). -/
inductive Condition where
  | normal | preAlarm | alarm | fault
deriving DecidableEq, Repr

/-- The derived state of a zone, in the rank order of Table 2-3. -/
inductive ZoneState where
  | dense | smoke | isolated | stale | watch | clear
deriving DecidableEq, Repr

/-- The usability of an exit, in the order of R40. -/
inductive Usability where
  | safeUse | harmUse | noUse
deriving DecidableEq, Repr

/-- A detector runtime record (Table 2-1). -/
structure DetectorRt where
  last : Condition
  heard : Bool
  silence : Timer
  silent : Bool
  fault : Bool
  ignored : Nat
deriving DecidableEq, Repr

/-- The reset value of a detector runtime record (Table 2-1). -/
abbrev DetectorRt.reset : DetectorRt := ⟨.normal, false, none, false, false, 0⟩

/-- A zone runtime record (Table 2-2). -/
structure ZoneRt where
  smoke : Bool
  dense : Bool
  isolate : Bool
  stale : Bool
  watch : Timer
  preCount : Nat
  derived : ZoneState
deriving DecidableEq, Repr

/-- The reset value of a zone runtime record (Table 2-2); no detector is in use, so the zone is ISOLATED (R33). -/
abbrev ZoneRt.reset : ZoneRt := ⟨false, false, false, true, none, 0, .isolated⟩

/-- An exit runtime record with its usability (R40, R45). -/
structure ExitRt where
  closed : Bool
  bias : Nat
  usability : Usability
deriving DecidableEq, Repr

/-- The reset value of an exit runtime record: OPEN, bias 0 (R45); no exit is defined, so NO_USE (R40). -/
abbrev ExitRt.reset : ExitRt := ⟨false, 0, .noUse⟩

/-- The hazard map. -/
structure Hazard where
  detectors : Tab DetectorRt
  zones : Tab ZoneRt
  exits : Tab ExitRt
deriving DecidableEq, Repr

/-! ### Route solver (Chapter 3) -/

/-- The phase of the solver, in the order of Table 3-1. -/
inductive Phase where
  | idle | take | safeSweep | harmSweep | balance | select | commit
deriving DecidableEq, Repr

/-- The tier of a place, from best to worst (R68, R87). -/
inductive Tier where
  | target | safe | leastHarm | none
deriving DecidableEq, Repr

/-- The tier an advert carries, in code order (Table 7-5). -/
inductive AdvertTier where
  | safe | leastHarm
deriving DecidableEq, Repr

/-- Where a route ends (R68): an exit id or a boundary index. -/
inductive Target where
  | exit (id : Nat)
  | boundary (index : Nat)
deriving DecidableEq, Repr

/-- A solution record (Table 3-5). -/
structure SolRec where
  cost : Nat
  tier : Tier
  next : Option Way
  target : Option Target
deriving DecidableEq, Repr

/-- The record of an unreachable place (R64). -/
abbrev SolRec.unreachable : SolRec := ⟨Config.unreachable, .none, none, none⟩

/-- The kind of a selection (R70). -/
inductive SelKind where
  | home | route | gap | fallback
deriving DecidableEq, Repr

/-- The selection of one sign (R70): its kind and face, with the tier, cost and target of the sign's place. -/
structure Selection where
  kind : SelKind
  face : Nat
  tier : Tier
  cost : Nat
  target : Option Target
deriving DecidableEq, Repr

/-- What the snapshot holds of one exit (Table 3-3). -/
structure ExitSnap where
  entry : ExitEntry
  closed : Bool
  bias : Nat
deriving DecidableEq, Repr

/-- The state of a boundary, in the order of Table 5-1. -/
inductive BoundaryState where
  | unheard | live | expired
deriving DecidableEq, Repr

/-- What the snapshot holds of one boundary (Table 3-3). -/
structure BoundarySnap where
  state : BoundaryState
  cost : Nat
  tier : AdvertTier
deriving DecidableEq, Repr

/-- The snapshot of a solve (Table 3-3). -/
structure Snapshot where
  zones : List ZoneState
  zoneDefined : List Bool
  exits : List ExitSnap
  boundaries : List BoundarySnap
  watchPenalty : Nat
  stalePenalty : Nat
  isolatedPenalty : Nat
  smokePenalty : Nat
  routeCeiling : Nat
  restartLimit : Nat
  balanceRounds : Nat
  balanceStep : Nat
deriving DecidableEq, Repr

/-- What SOLVE_EXIT returns of one exit (R80): catchment, balance bias, and tier as a target (1, 2, or 0 for none). -/
structure SolveExit where
  catchment : Nat
  bias : Nat
  tier : Nat
deriving DecidableEq, Repr

/-- The summary of a committed solution (R72), but for the catchments and biases of the exits. -/
structure Summary where
  nTarget : Nat
  nSafe : Nat
  nLeastHarm : Nat
  nNone : Nat
  faceGaps : Nat
  rounds : Nat
  sweeps : Nat
  restarts : Nat
deriving DecidableEq, Repr

/-- A committed solution with its summary (R71, R72). -/
structure Committed where
  records : List SolRec
  summary : Summary
  exits : List SolveExit
deriving DecidableEq, Repr

/-- The route solver (Table 3-1). -/
structure Solver where
  phase : Phase
  snapshot : Option Snapshot
  work : List SolRec
  workSelections : List Selection
  tierSweeps : Nat
  sweeps : Nat
  catchments : List Nat
  committed : Option Committed
  generation : BitVec 16
  pending : Bool
  restarts : Nat
  biases : List Nat
  rounds : Nat
  recheck : Timer
deriving DecidableEq, Repr

/-- The solver after POWER and PIN (Table 3-1). -/
abbrev Solver.reset : Solver :=
  { phase := .idle, snapshot := none, work := [], workSelections := [], tierSweeps := 0, sweeps := 0, catchments := [],
    committed := none, generation := 0, pending := false, restarts := 0, biases := List.replicate Config.exitCount 0, rounds := 0,
    recheck := none }

/-! ### Sign scheduler (Chapter 4) -/

/-- Sign modes, in code order (Table 7-5). -/
inductive SignMode where
  | dark | steady | flash | chase
deriving DecidableEq, Repr

/-- Which row of the presentation rule produced a presentation (R82). -/
inductive Basis where
  | dark | home | route | gap | fallback
deriving DecidableEq, Repr

/-- A presentation with its basis and tier (Table 4-2). -/
structure Presentation where
  face : Nat
  mode : SignMode
  phase : Nat
  brightness : Nat
  tone : Nat
  basis : Basis
  tier : Tier
deriving DecidableEq, Repr

/-- The confirmation state of a sign (Table 4-2). -/
inductive SignState where
  | unknown | awaiting | confirmed | faulted
deriving DecidableEq, Repr

/-- A sign runtime record (Table 4-2). Its queue membership is read from the update queue (R90). `confirmed` holds the shown face and
the shown mode as the sign reported them. -/
structure SignRt where
  desired : Option Presentation
  commanded : Option Presentation
  confirmed : Option (Byte × Byte)
  state : SignState
  hold : Timer
  held : Bool
  confirm : Timer
  noReply : Nat
  mismatch : Nat
  lampFault : Bool
deriving DecidableEq, Repr

/-- The reset value of a sign runtime record (Table 4-2). -/
abbrev SignRt.reset : SignRt := ⟨none, none, none, .unknown, none, false, none, 0, 0, false⟩

/-- The sign scheduler (Table 4-1) and its sign runtime records. -/
structure Signs where
  selections : Option (List Selection)
  hazardRef : List ZoneState
  forced : List Nat
  ordinary : List Nat
  refreshPtr : Nat
  refreshTimer : Timer
  refreshDue : Bool
  defaultSlot : Bool
  defaultTimer : Timer
  records : Tab SignRt
deriving DecidableEq, Repr

/-- The sign scheduler after POWER and PIN (Table 4-1). -/
abbrev Signs.reset : Signs :=
  { selections := none, hazardRef := List.replicate Config.zoneCount .clear, forced := [], ordinary := [], refreshPtr := 0,
    refreshTimer := none, refreshDue := false, defaultSlot := false, defaultTimer := none, records := [] }

/-! ### Boundary exchange (Chapter 5) -/

/-- The cost and tier of an advert (R115). -/
structure Advert where
  cost : Nat
  tier : AdvertTier
deriving DecidableEq, Repr

/-- A boundary runtime record (Table 5-1). -/
structure BoundaryRt where
  state : BoundaryState
  heardCost : Nat
  heardTier : AdvertTier
  age : Timer
  computed : Option Advert
  last : Option Advert
  due : Bool
deriving DecidableEq, Repr

/-- The reset value of a boundary runtime record (Table 5-1). -/
abbrev BoundaryRt.reset : BoundaryRt := ⟨.unheard, Config.unreachable, .safe, none, none, none, false⟩

/-- The boundary exchange (R108, R109). -/
structure Boundaries where
  records : Tab BoundaryRt
  period : Timer
deriving DecidableEq, Repr

/-! ### Mode controller (Chapter 6) -/

/-- The operating mode, in the code order of NOTICE (Table 7-5). -/
inductive Mode where
  | quiet | standby | alert | evac | maint
deriving DecidableEq, Repr

/-- A panel line (R131): its present level, its accepted level and its lockout. -/
structure PanelLine where
  raw : Level
  accepted : Level
  lockout : Timer
deriving DecidableEq, Repr

/-- The mode controller (Table 6-2). `fireEvac` is the fire target: EVAC when yes, ALERT when no. -/
structure ModeCtl where
  mode : Mode
  startWait : Bool
  heldEvac : Bool
  evacDemand : Bool
  frozen : Bool
  evacLine : PanelLine
  holdLine : PanelLine
  fireWaiting : Bool
  fireEvac : Bool
  lineCause : Bool
deriving DecidableEq, Repr

/-- The mode controller after POWER and PIN, with the lines at the levels given (Table 6-2, R131). -/
abbrev ModeCtl.reset (evacRaw holdRaw : Level) : ModeCtl :=
  { mode := .maint, startWait := true, heldEvac := false, evacDemand := false, frozen := false,
    evacLine := ⟨evacRaw, .inactive, none⟩, holdLine := ⟨holdRaw, .inactive, none⟩, fireWaiting := false, fireEvac := false,
    lineCause := false }

/-! ### The hall loop (Chapter 7) -/

/-- A telegram: header fields and payload (R142). Its length field is the payload's length and its check is computed. -/
structure Telegram where
  dest : Byte
  source : Byte
  cls : TClass
  shared : Bool
  kind : BitVec 5
  payload : List Byte
deriving DecidableEq, Repr

/-- The state of a Port A lane, in the order of Table 7-1. -/
inductive LaneState where
  | down | restoring | up
deriving DecidableEq, Repr

/-- A Port A lane (R137): state, restore timer, and whether a telegram has been seen on it since the last grant (R138, log 9). -/
structure LaneA where
  state : LaneState
  restore : Timer
  fillSeen : Bool
deriving DecidableEq, Repr

/-- A lane in DOWN. -/
abbrev LaneA.reset : LaneA := ⟨.down, none, false⟩

/-- The state of a port, in the order of R138. -/
inductive PortState where
  | training | upDual | upSingle | down
deriving DecidableEq, Repr

/-- An occupied pool slot (R150): its number (0..15), whether it is a shared slot, its telegram, and whether the telegram waits in the
forward queue (R154). -/
structure PoolSlot where
  index : Nat
  sharedSlot : Bool
  telegram : Telegram
  waiting : Bool
deriving DecidableEq, Repr

/-- What Port A sends upstream on its return lane (R150, R151). -/
inductive ReturnItem where
  | grant (credits : Credits)
  | credit (kind : CreditKind)
deriving DecidableEq, Repr

/-- Port A (R137 to R139, R150, R151). `pool` lists the occupied slots in arrival order; `returns` records what has been sent on the
return lane, newest first (log 23). -/
structure PortA where
  lane0 : LaneA
  lane1 : LaneA
  state : PortState
  outstanding : Credits
  pool : List PoolSlot
  returns : List ReturnItem
deriving DecidableEq, Repr

/-- Port A after a reset (Table 7-7), with its record of sent returns. -/
abbrev PortA.reset (returns : List ReturnItem) : PortA := ⟨LaneA.reset, LaneA.reset, .training, Credits.zero, [], returns⟩

/-- Port B (R140, R152). -/
structure PortB where
  lane0Up : Bool
  lane1Up : Bool
  state : PortState
  credits : Credits
  heldGrant : Option Credits
deriving DecidableEq, Repr

/-- Port B after a reset (Table 7-7). The table has no row for the held grant of R140, which is dropped: the model's choice (log 48). -/
abbrev PortB.reset : PortB := ⟨false, false, .training, Credits.zero, none⟩

/-- A transmission in progress at Port B: the telegram, and the pool slot of a forwarded one (`none` for an own telegram). -/
structure Transmission where
  telegram : Telegram
  slot : Option Nat
deriving DecidableEq, Repr

/-- The sides of step 5 of the arbiter (R155). -/
inductive Side where
  | a | b
deriving DecidableEq, Repr

/-- The credit stall timer and stall episode of a class (R153). -/
structure Stall where
  timer : Timer
  episode : Bool
deriving DecidableEq, Repr

/-- The forward path's own state (R153 to R157). -/
structure Forward where
  tx : Option Transmission
  resend : Option Telegram
  turn : Side
  stalls : PerClass Stall
deriving DecidableEq, Repr

/-- The forward path after a reset (Table 7-7). -/
abbrev Forward.reset : Forward := ⟨none, none, .a, ⟨⟨none, false⟩, ⟨none, false⟩, ⟨none, false⟩, ⟨none, false⟩⟩⟩

/-- An outstanding beat (R160). -/
structure RoundEntry where
  beat : Fin 8
  timer : Timer
deriving DecidableEq, Repr

/-- The cadence generator and the round check (R159 to R161). -/
structure Cadence where
  nextBeat : Fin 8
  timer : Timer
  slot : Option (Fin 8)
  round : List RoundEntry
  missCount : Nat
  loopOpen : Bool
  lateBeats : Nat
deriving DecidableEq, Repr

/-- The cadence generator and the round check after a reset (Table 7-7). -/
abbrev Cadence.reset : Cadence := ⟨0, none, none, [], 0, false, 0⟩

/-- A retired address and the time it is still held (R146). -/
structure Retired where
  address : Nat
  timer : Timer
deriving DecidableEq, Repr

/-- Node addressing (R145, R146) and the discarded-take count (R149). Address 0 is unaddressed. -/
structure Node where
  straps : Byte
  address : Nat
  retired : Option Retired
  discardedTakes : Nat
deriving DecidableEq, Repr

/-! ### Request handler (Chapter 8) -/

/-- An entry of the request queue (R164); the request kind is the payload's first byte. -/
structure ReqEntry where
  requester : Byte
  broadcast : Bool
  payload : List Byte
deriving DecidableEq, Repr

/-- A RESPONSE in the response origin slot or due to be placed there (R166, R169); `completion` marks a completion response, whose
sending takes no entry from the queue. -/
structure Response where
  dest : Byte
  payload : List Byte
  completion : Bool
deriving DecidableEq, Repr

/-- The kind and requester recorded at LAYOUT_CLOSE or LAYOUT_DISCARD (R169). -/
structure Operation where
  kind : Byte
  requester : Byte
deriving DecidableEq, Repr

/-- The request handler (R164, R169, R174). -/
structure Requests where
  queue : List ReqEntry
  slot : Option Response
  completionDue : Option Response
  operation : Option Operation
  restarting : Bool
deriving DecidableEq, Repr

/-- The request handler after POWER and PIN (R164). -/
abbrev Requests.reset : Requests := ⟨[], none, none, none, false⟩

/-! ### Notices, captures and counters (Chapter 9) -/

/-- The notice causes, in priority order (Table 9-1). -/
inductive Cause where
  | zoneEscalated | routeLost | loopDegraded | exitChanged | modeChanged | signFault | detectorFault | boundaryChanged
  | captureReady | captureLost | storeDone | counterOverflow | started
deriving DecidableEq, Repr

/-- Latch, enable flag and detail byte of one cause (R176). -/
structure CauseRec where
  latched : Bool
  enabled : Bool
  detail : Nat
deriving DecidableEq, Repr

/-- A cause after POWER and PIN: latch and enable clear, detail 0 (R176). -/
abbrev CauseRec.reset : CauseRec := ⟨false, false, 0⟩

/-- The notice unit (R176); causes are listed by their numbers 1..13. -/
structure Notices where
  causes : Tab CauseRec
  master : Bool
  spacing : Timer
deriving DecidableEq, Repr

/-- The trigger of a capture, in code order (R179). -/
inductive Trigger where
  | request | incident | evacLine | periodic
deriving DecidableEq, Repr

/-- A capture record (R180). -/
structure Capture where
  trigger : Trigger
  uptime : BitVec 32
  mode : Mode
  generation : BitVec 16
  present : Bool
  zones : List ZoneState
  exits : List Usability
  nTarget : Nat
  nSafe : Nat
  nLeastHarm : Nat
  nNone : Nat
  nHeld : Nat
  nFaulted : Nat
deriving DecidableEq, Repr

/-- A filled capture slot: its number and its record. -/
structure FilledSlot where
  slot : Nat
  capture : Capture
deriving DecidableEq, Repr

/-- The read progress of the capture unit (R179). -/
inductive ReadProgress where
  | none | part0 | part1
deriving DecidableEq, Repr

/-- The capture unit (R179). `filled` lists the filled slots, the one filled first at its head; `reading` is the slot being read while
the progress is not NONE. -/
structure Captures where
  filled : List FilledSlot
  progress : ReadProgress
  reading : Nat
  overflow : Bool
  lockClosed : Bool
  timer : Timer
deriving DecidableEq, Repr

/-- The capture unit after POWER and PIN (R179). -/
abbrev Captures.reset : Captures := ⟨[], .none, 0, false, false, none⟩

/-- A traffic counter (R182): value, overflow flag and selection. -/
structure Counter where
  value : BitVec 32
  overflow : Bool
  event : Nat
  mask : BitVec 4
  threshold : Nat
  freezeOnOverflow : Bool
deriving DecidableEq, Repr

/-- A counter after a reset (R183): 0, event NONE. -/
abbrev Counter.reset : Counter := ⟨0, false, 0, 0, 0, false⟩

/-- The four counters, numbered 0..3, and the frozen flag (R182). -/
structure Counters where
  table : Tab Counter
  frozen : Bool
deriving DecidableEq, Repr

/-! ### Layout store (Chapter 10) -/

/-- The operation the store runs; it gives the store state of R184. -/
inductive StoreOp where
  | idle | save | startUpRead | load | layoutReload
deriving DecidableEq, Repr

/-- The layout store (R184). `marker`, `check` and `image` are the non-volatile image, `saveCount` is kept apart from its marked part. -/
structure Store where
  op : StoreOp
  valid : Bool
  saveCount : BitVec 16
  marker : Bool
  check : Nat
  image : Tables
deriving DecidableEq, Repr

/-! ### The whole router -/

/-- The state of the MG-710. `pending` is the queue of commands waiting, first in, first out; `inReset` says that the blocks are held at
their reset values until start-up begins (R188, R189). `draws` is the MODEL's own: it counts the uses of the free values (log 11). -/
structure State where
  pending : List Instr
  inReset : Bool
  tables : Tables
  layout : Layout
  validation : Validation
  store : Store
  hazard : Hazard
  solver : Solver
  signs : Signs
  boundaries : Boundaries
  mode : ModeCtl
  portA : PortA
  portB : PortB
  forward : Forward
  cadence : Cadence
  node : Node
  requests : Requests
  notices : Notices
  captures : Captures
  counters : Counters
  uptime : BitVec 32
  draws : Nat
deriving DecidableEq, Repr

/-- Reasons for which a step stops the machine. The spec names no event that stops the router (log 26): the type has no constructor, so
no step can answer a fault. -/
inductive Fault where
deriving DecidableEq, Repr

/-- Reasons for which a step has no answer. -/
inductive Refusal where
  /-- Raised by `exec` for a command that has no meaning yet; safe. -/
  | notModelled (mnemonic : String)
deriving DecidableEq, Repr

/-- The router right after a POWER reset, before start-up begins (R188, Table 10-1): STARTED is latched with detail 0, the store is
LOADING. The image is that of a part never saved to (logs 6 and 35), the panel lines and straps are as log 7 says. -/
def State.reset : State :=
  { pending := []
    inReset := true
    tables := Tables.empty
    layout := .none
    validation := ⟨false, 0, 0, 0⟩
    store := ⟨.startUpRead, false, 0, false, 0, Tables.empty⟩
    hazard := ⟨[], [], []⟩
    solver := Solver.reset
    signs := Signs.reset
    boundaries := ⟨[], none⟩
    mode := ModeCtl.reset .inactive .inactive
    portA := PortA.reset []
    portB := PortB.reset
    forward := Forward.reset
    cadence := Cadence.reset
    node := ⟨0, 0, none, 0⟩
    requests := Requests.reset
    notices := ⟨[(13, ⟨true, false, 0⟩)], false, none⟩
    captures := Captures.reset
    counters := ⟨[], false⟩
    uptime := 0
    draws := 0 }

end Sys2Proof.Machine
end

