-- ==== Sys2Proof/Machine/Operands.lean ====
section
/-! DEFINITION. Operand forms: the codes of the spec's enumerations, telegrams as bytes with their check (R142, R143), the entries
written and read by index (R173), and which row a waiting request belongs to (Table 8-2). -/

namespace Sys2Proof.Machine

/-! ### Codes -/

/-- The code of a class (R142). -/
def classCode : TClass → Nat
  | .haz => 0 | .sign => 1 | .mgmt => 2 | .ctl => 3

/-- The class of a two-bit code (R142). -/
def classOfCode (n : Nat) : TClass :=
  if n = 0 then .haz else if n = 1 then .sign else if n = 2 then .mgmt else .ctl

/-- Mode codes of NOTICE (Table 7-5). -/
def modeCode : Mode → Nat
  | .quiet => 0 | .standby => 1 | .alert => 2 | .evac => 3 | .maint => 4

/-- The condition of a REPORT code, if it is one of the four (Table 7-5). -/
def conditionOfCode (n : Nat) : Option Condition :=
  if n = 0 then some .normal else if n = 1 then some .preAlarm else if n = 2 then some .alarm else if n = 3 then some .fault else none

/-- Condition codes (Table 7-5). -/
def conditionCode : Condition → Nat
  | .normal => 0 | .preAlarm => 1 | .alarm => 2 | .fault => 3

/-- Zone state codes: the rank order of Table 2-3, from DENSE 0 (R181). -/
def zoneStateCode : ZoneState → Nat
  | .dense => 0 | .smoke => 1 | .isolated => 2 | .stale => 3 | .watch => 4 | .clear => 5

/-- Usability codes (R181). -/
def usabilityCode : Usability → Nat
  | .safeUse => 0 | .harmUse => 1 | .noUse => 2

/-- Sign mode codes (Table 7-5). -/
def signModeCode : SignMode → Nat
  | .dark => 0 | .steady => 1 | .flash => 2 | .chase => 3

/-- Basis codes, in the order R82 lists them. -/
def basisCode : Basis → Nat
  | .dark => 0 | .home => 1 | .route => 2 | .gap => 3 | .fallback => 4

/-- Tier codes, in the order Table 3-5 lists them. -/
def tierCode : Tier → Nat
  | .target => 0 | .safe => 1 | .leastHarm => 2 | .none => 3

/-- Advert tier codes (Table 7-5). -/
def advertTierCode : AdvertTier → Nat
  | .safe => 0 | .leastHarm => 1

/-- The advert tier of a code, if it is one of the two (Table 7-5). -/
def advertTierOfCode (n : Nat) : Option AdvertTier :=
  if n = 0 then some .safe else if n = 1 then some .leastHarm else none

/-- Sign state codes, in the order of Table 4-2. -/
def signStateCode : SignState → Nat
  | .unknown => 0 | .awaiting => 1 | .confirmed => 2 | .faulted => 3

/-- Boundary state codes, in the order of Table 5-1. -/
def boundaryStateCode : BoundaryState → Nat
  | .unheard => 0 | .live => 1 | .expired => 2

/-- Layout state codes, in the order R19 lists them. -/
def layoutCode : Layout → Nat
  | .none => 0 | .editing => 1 | .validating => 2 | .reloading => 3 | .active => 4

/-- Solver phase codes, in the order of Table 3-1. -/
def phaseCode : Phase → Nat
  | .idle => 0 | .take => 1 | .safeSweep => 2 | .harmSweep => 3 | .balance => 4 | .select => 5 | .commit => 6

/-- Port state codes, in the order of R138. -/
def portStateCode : PortState → Nat
  | .training => 0 | .upDual => 1 | .upSingle => 2 | .down => 3

/-- Port A lane state codes, in the order of Table 7-1. -/
def laneStateCode : LaneState → Nat
  | .down => 0 | .restoring => 1 | .up => 2

/-- Panel line level codes, in the order of Table 6-2. -/
def levelCode : Level → Nat
  | .active => 0 | .inactive => 1

/-- Trigger codes (R179). -/
def triggerCode : Trigger → Nat
  | .request => 0 | .incident => 1 | .evacLine => 2 | .periodic => 3

/-- Cause numbers (Table 9-1). -/
def causeNumber : Cause → Nat
  | .zoneEscalated => 1 | .routeLost => 2 | .loopDegraded => 3 | .exitChanged => 4 | .modeChanged => 5 | .signFault => 6
  | .detectorFault => 7 | .boundaryChanged => 8 | .captureReady => 9 | .captureLost => 10 | .storeDone => 11
  | .counterOverflow => 12 | .started => 13

/-- A cause is maskable (Table 9-1). -/
def causeMaskable (n : Nat) : Bool := !(n = 1 || n = 2 || n = 3 || n = 13)

/-- Place kind codes (R14, R173). -/
def placeKindCode : PlaceKind → Nat
  | .aisle => 0 | .junction => 1 | .exit => 2 | .boundary => 3

/-- The place kind of a code, if it is defined (R18). -/
def placeKindOfCode (n : Nat) : Option PlaceKind :=
  if n = 0 then some .aisle else if n = 1 then some .junction else if n = 2 then some .exit else if n = 3 then some .boundary else none

/-- Direction codes (R15, R173). -/
def directionCode : Direction → Nat
  | .twoWay => 0 | .aToB => 1 | .bToA => 2

/-- The direction of a code, if it is defined (R18). -/
def directionOfCode (n : Nat) : Option Direction :=
  if n = 0 then some .twoWay else if n = 1 then some .aToB else if n = 2 then some .bToA else none

/-- The events a counter can select (Table 9-5). -/
inductive CounterEvent where
  | forwarded | cutThrough | queued | poolOccupancy | poolAbove | creditWait | checkFail | overrun | reportsTaken | showSent
  | statusMismatch | solveCommit | solveAbort | sweeps | requestDropped | beatLost | advertRejected
deriving DecidableEq, Repr

/-- Event codes (Table 9-5). -/
def eventCode : CounterEvent → Nat
  | .forwarded => 1 | .cutThrough => 2 | .queued => 3 | .poolOccupancy => 4 | .poolAbove => 5 | .creditWait => 6 | .checkFail => 7
  | .overrun => 8 | .reportsTaken => 9 | .showSent => 10 | .statusMismatch => 11 | .solveCommit => 12 | .solveAbort => 13
  | .sweeps => 14 | .requestDropped => 15 | .beatLost => 16 | .advertRejected => 17

/-- Status codes of a RESPONSE (Table 8-1). -/
inductive Status where
  | ok | accepted | busy | wrongMode | hazardPresent | hazardLatched | noLayout | badTable | badIndex | badField | invalid | empty
  | sequence | unknownKind
deriving DecidableEq, Repr

/-- The numbers of Table 8-1. -/
def statusCode : Status → Nat
  | .ok => 0 | .accepted => 1 | .busy => 2 | .wrongMode => 3 | .hazardPresent => 4 | .hazardLatched => 5 | .noLayout => 6
  | .badTable => 7 | .badIndex => 8 | .badField => 9 | .invalid => 10 | .empty => 11 | .sequence => 12 | .unknownKind => 13

/-! ### Fields as bytes (R170, R173) -/

/-- A number in one byte. -/
def num1 (n : Nat) : List Byte := [byte n]

/-- A number in two bytes, high byte first. -/
def num2 (n : Nat) : List Byte := [byte (n / 256), byte n]

/-- A number in four bytes, high byte first. -/
def num4 (n : Nat) : List Byte := [byte (n / 16777216), byte (n / 65536), byte (n / 256), byte n]

/-- A yes or no field: 1 for yes (R173, log 13). -/
def flag (b : Bool) : List Byte := [byte (if b then 1 else 0)]

/-- An optional one-byte field, 255 when absent (R173). -/
def opt1 (o : Option Nat) : List Byte := num1 (o.getD 255)

/-- A timer as two bytes of time left in 100 ms units, 65535 when stopped (R173); the remainder is discarded (log 18). -/
def timer2 (t : Timer) : List Byte :=
  match t with
  | none => num2 65535
  | some ms => num2 (ms / 100)

/-- A timer given only as running (1) or stopped (0) (R173). -/
def timer1 (t : Timer) : List Byte := flag t.isSome

/-- The number in byte `i` of a field list. -/
def at1 (f : List Byte) (i : Nat) : Nat := (f.getD i 0).toNat

/-- The number in bytes `i` and `i + 1` of a field list, high byte first. -/
def at2 (f : List Byte) (i : Nat) : Nat := word16 (f.getD i 0) (f.getD (i + 1) 0)

/-! ### Telegrams (R142, R143) -/

/-- One bit through the check register: generator x^16 + x^12 + x^5 + 1 (R143). -/
def crcBit (r : BitVec 16) (b : Bool) : BitVec 16 :=
  if r.msb != b then (r <<< 1) ^^^ 0x1021#16 else r <<< 1

/-- One byte through the check register, most significant bit first (R143). -/
def crcByte (r : BitVec 16) (x : Byte) : BitVec 16 :=
  [7, 6, 5, 4, 3, 2, 1, 0].foldl (fun r i => crcBit r (x.getLsbD i)) r

/-- The 16-bit check over header and payload, register preset to all ones (R143). -/
def crc16 (bs : List Byte) : BitVec 16 := bs.foldl crcByte 0xFFFF#16

/-- Header byte 2: class, shared flag, kind (Table 7-3). -/
def headerByte2 (t : Telegram) : Byte :=
  byte (classCode t.cls * 64 + (if t.shared then 32 else 0) + t.kind.toNat)

/-- Header and payload of a telegram (Table 7-3). -/
def telegramBody (t : Telegram) : List Byte :=
  [t.dest, t.source, headerByte2 t, byte t.payload.length] ++ t.payload

/-- A telegram as it stands on the loop: header, payload, check (Table 7-3). -/
def encodeTelegram (t : Telegram) : List Byte :=
  telegramBody t ++ num2 (crc16 (telegramBody t)).toNat

/-- The class named by header byte 2. -/
def headerClass (h : Byte) : TClass := classOfCode (h.toNat / 64)

/-- The shared flag of header byte 2. -/
def headerShared (h : Byte) : Bool := h.getLsbD 5

/-- The credit that a header's class and shared flag name (R147). -/
def creditOf (shared : Bool) (cls : TClass) : CreditKind := if shared then .shared else .dedicated cls

/-- An arrival as Port A judges it (R143): a bad check with the credit its header names (none where the header was not read), or a
good telegram. -/
inductive Arrival where
  | bad (credit : Option CreditKind)
  | good (t : Telegram)
deriving DecidableEq, Repr

/-- A source address a telegram may carry (R143). -/
def validSource (b : Byte) : Bool := decide (1 ≤ b.toNat) && decide (b.toNat ≤ 250)

/-- Read the bytes of an arrival (R142, R143). Bytes that are not just header, payload and check count as a bad check (log 21). -/
def parseTelegram (bs : List Byte) : Arrival :=
  match bs with
  | dest :: source :: h :: len :: rest =>
    let n := len.toNat
    if n ≤ 32 ∧ validSource source = true ∧ rest.length = n + 2 ∧
        (crc16 (dest :: source :: h :: len :: rest.take n)).toNat = at2 rest n then
      .good ⟨dest, source, headerClass h, headerShared h, h.setWidth 5, rest.take n⟩
    else .bad (some (creditOf (headerShared h) (headerClass h)))
  | _ :: _ :: h :: _ => .bad (some (creditOf (headerShared h) (headerClass h)))
  | _ => .bad none

/-- The telegram is of the class and kind code given (Table 7-4). -/
def Telegram.isKind (t : Telegram) (cls : TClass) (kind : Nat) : Bool := decide (t.cls = cls) && decide (t.kind.toNat = kind)

/-! ### Entries as bytes (Table 8-6, R173) -/

/-- Bytes of a zone entry. -/
def zoneEntryBytes (e : ZoneEntry) : List Byte := flag e.defined ++ num1 e.denseQuorum ++ flag e.faultLatch ++ flag e.wakeOnWatch

/-- A written zone entry, if every field is in range (R3, R6). -/
def parseZoneEntry (e : List Byte) : Option ZoneEntry :=
  if at1 e 0 ≤ 1 ∧ 2 ≤ at1 e 1 ∧ at1 e 1 ≤ 8 ∧ at1 e 2 ≤ 1 ∧ at1 e 3 ≤ 1 then
    some ⟨at1 e 0 = 1, at1 e 1, at1 e 2 = 1, at1 e 3 = 1⟩
  else none

/-- Bytes of a detector entry. -/
def detectorEntryBytes (e : DetectorEntry) : List Byte := num1 e.address ++ num1 e.channel ++ num1 e.zone ++ num1 e.weight

/-- A written detector entry, if every field is in range (R4, R6). -/
def parseDetectorEntry (e : List Byte) : Option DetectorEntry :=
  if at1 e 0 ≤ 250 ∧ at1 e 1 ≤ 3 ∧ at1 e 2 ≤ 63 ∧ 1 ≤ at1 e 3 ∧ at1 e 3 ≤ 3 then
    some ⟨at1 e 0, at1 e 1, at1 e 2, at1 e 3⟩
  else none

/-- Bytes of an exit entry. -/
def exitEntryBytes (e : ExitEntry) : List Byte :=
  flag e.defined ++ num1 e.zone ++ num2 e.baseCost ++ num1 e.catchmentLimit ++ num1 e.toneClass

/-- A written exit entry, if every field is in range (R5, R6). -/
def parseExitEntry (e : List Byte) : Option ExitEntry :=
  if at1 e 0 ≤ 1 ∧ at1 e 1 ≤ 63 ∧ at2 e 2 ≤ 1000 ∧ 1 ≤ at1 e 5 ∧ at1 e 5 ≤ 4 then
    some ⟨at1 e 0 = 1, at1 e 1, at2 e 2, at1 e 4, at1 e 5⟩
  else none

/-- Bytes of the layout header. -/
def headerBytes (e : Header) : List Byte := num2 e.placeCount ++ num2 e.passageCount ++ num1 e.signCount

/-- A written layout header, if no count is above its capacity (R13, R18). -/
def parseHeader (e : List Byte) : Option Header :=
  if at2 e 0 ≤ Config.placeCapacity ∧ at2 e 2 ≤ Config.passageCapacity ∧ at1 e 4 ≤ Config.signCapacity then
    some ⟨at2 e 0, at2 e 2, at1 e 4⟩
  else none

/-- Bytes of a place entry. -/
def placeEntryBytes (e : PlaceEntry) : List Byte := num1 (placeKindCode e.kind) ++ num1 e.zone ++ opt1 e.exitId ++ opt1 e.boundary

/-- A written place entry, if its form is right (R14, R18): an exit id or boundary index is kept only for the kind that has one. -/
def parsePlaceEntry (e : List Byte) : Option PlaceEntry :=
  match placeKindOfCode (at1 e 0) with
  | none => none
  | some k =>
    if at1 e 1 ≤ 63 ∧ (k = .exit → at1 e 2 ≤ 31) ∧ (k = .boundary → at1 e 3 ≤ 7) then
      some ⟨k, at1 e 1, if k = .exit then some (at1 e 2) else none, if k = .boundary then some (at1 e 3) else none⟩
    else none

/-- Bytes of a passage entry. -/
def passageEntryBytes (e : PassageEntry) : List Byte :=
  num1 e.endA ++ num1 e.endB ++ num2 e.length ++ num1 (directionCode e.direction) ++ opt1 e.via

/-- A written passage entry, if its form is right (R15, R18); via zone 255 writes it absent. -/
def parsePassageEntry (e : List Byte) : Option PassageEntry :=
  match directionOfCode (at1 e 4) with
  | none => none
  | some d =>
    if at1 e 5 ≤ 63 ∨ at1 e 5 = 255 then
      some ⟨at1 e 0, at1 e 1, at2 e 2, d, if at1 e 5 = 255 then none else some (at1 e 5)⟩
    else none

/-- The number that carries a face or a next: the passage index, 65534 for CROSSING (R173). -/
def wayNumber : Way → Nat
  | .passage n => n
  | .crossing => 65534

/-- A written face, if it names a passage index or CROSSING (R16, R18, R173). -/
def parseFace (n : Nat) : Option Way :=
  if n = 65534 then some .crossing else if n < Config.passageCapacity then some (.passage n) else none

/-- The four face slots of a sign entry; unused slots are 65535 (R173). -/
def faceSlots (faces : List Way) : List Byte :=
  [0, 1, 2, 3].flatMap (fun i => num2 (((faces[i]?).map wayNumber).getD 65535))

/-- Bytes of a sign entry (Table 8-6). -/
def signEntryBytes (e : SignEntry) : List Byte :=
  num1 e.address ++ num1 e.unit ++ num1 e.place ++ num1 e.faces.length ++ faceSlots e.faces ++ num1 e.homeFace ++
    num1 e.fallbackFace ++ flag e.toneCapable

/-- The used face slots of a written sign entry, if each is a face. -/
def parseFaces (e : List Byte) (n : Nat) : Option (List Way) :=
  ((List.range n).map (fun i => parseFace (at2 e (4 + 2 * i)))).foldr
    (fun f acc => match f, acc with
      | some w, some l => some (w :: l)
      | _, _ => none) (some [])

/-- A written sign entry, if its form is right (R16, R18). -/
def parseSignEntry (e : List Byte) : Option SignEntry :=
  if at1 e 1 ≤ 3 ∧ 1 ≤ at1 e 3 ∧ at1 e 3 ≤ 4 ∧ at1 e 14 ≤ 1 then
    match parseFaces e (at1 e 3) with
    | none => none
    | some fs => some ⟨at1 e 0, at1 e 1, at1 e 2, fs, at1 e 12, at1 e 13, at1 e 14 = 1⟩
  else none

/-- Bytes of a boundary entry. -/
def boundaryEntryBytes (e : BoundaryEntry) : List Byte :=
  flag e.defined ++ num1 e.id ++ num1 e.place ++ num1 e.peer ++ num2 e.crossingCost

/-- A written boundary entry, if its form is right (R17, R18). -/
def parseBoundaryEntry (e : List Byte) : Option BoundaryEntry :=
  if at1 e 0 ≤ 1 then some ⟨at1 e 0 = 1, at1 e 1, at1 e 2, at1 e 3, at2 e 4⟩ else none

/-! ### Parameters by index (Table 1-5) -/

/-- The value of the parameter with an index. -/
def paramGet (p : Params) (i : Nat) : Nat :=
  match i with
  | 0 => p.panelAddress | 1 => p.startMode | 2 => p.silenceTime | 3 => p.watchDecayTime | 4 => p.watchPenalty
  | 5 => p.stalePenalty | 6 => p.isolatedPenalty | 7 => p.smokePenalty | 8 => p.routeCeiling | 9 => p.holdTime
  | 10 => p.refreshPeriod | 11 => p.confirmTime | 12 => p.beatPeriod | 13 => p.chaseStep | 14 => p.standbyBrightness
  | 15 => p.roundLimit | 16 => p.advertPeriod | 17 => p.recheckPeriod | 18 => p.restartLimit | 19 => p.balanceRounds
  | 20 => p.balanceStep | 21 => p.noticeSpacing | 22 => p.capturePeriod | 23 => p.laneLossTime | 24 => p.laneRestoreTime
  | 25 => p.creditStallTime | _ => 0

/-- The parameter set with the value of one index replaced. -/
def paramSet (p : Params) (i v : Nat) : Params :=
  match i with
  | 0 => { p with panelAddress := v } | 1 => { p with startMode := v } | 2 => { p with silenceTime := v }
  | 3 => { p with watchDecayTime := v } | 4 => { p with watchPenalty := v } | 5 => { p with stalePenalty := v }
  | 6 => { p with isolatedPenalty := v } | 7 => { p with smokePenalty := v } | 8 => { p with routeCeiling := v }
  | 9 => { p with holdTime := v } | 10 => { p with refreshPeriod := v } | 11 => { p with confirmTime := v }
  | 12 => { p with beatPeriod := v } | 13 => { p with chaseStep := v } | 14 => { p with standbyBrightness := v }
  | 15 => { p with roundLimit := v } | 16 => { p with advertPeriod := v } | 17 => { p with recheckPeriod := v }
  | 18 => { p with restartLimit := v } | 19 => { p with balanceRounds := v } | 20 => { p with balanceStep := v }
  | 21 => { p with noticeSpacing := v } | 22 => { p with capturePeriod := v } | 23 => { p with laneLossTime := v }
  | 24 => { p with laneRestoreTime := v } | 25 => { p with creditStallTime := v } | _ => p

/-- The value lies in the range of Table 1-5 for the parameter with that index. -/
def paramInRange (i v : Nat) : Bool :=
  let within (lo hi : Nat) : Bool := decide (lo ≤ v) && decide (v ≤ hi)
  match i with
  | 0 => within 0 250 | 1 => within 0 1 | 2 => within 10 300 | 3 => within 10 600 | 4 => within 0 1000 | 5 => within 0 1000
  | 6 => within 0 1000 | 7 => within 1 5000 | 8 => within 100 65534 | 9 => within 2 60 | 10 => within 5 60 | 11 => within 100 2000
  | 12 => within 100 1000 | 13 => within 1 50 | 14 => within 1 15 | 15 => within 50 1000 | 16 => within 1 30 | 17 => within 10 600
  | 18 => within 0 4 | 19 => within 0 3 | 20 => within 1 1000 | 21 => within 50 2000 | 22 => decide (v = 0) || within 10 3600
  | 23 => within 20 500 | 24 => within 100 5000 | 25 => within 5 100 | _ => false

/-! ### Requests (Table 8-2) -/

/-- The rows of spec/opcode_table.json that execute a request. -/
inductive ReqRow where
  | unknownKind | statusRead | entryRead
  | entryWriteZone | entryWriteDetector | entryWriteExit | entryWriteParameter | entryWriteLayoutHeader | entryWritePlace
  | entryWritePassage | entryWriteSign | entryWriteBoundary | entryWriteOtherTable
  | layoutOpen | layoutClose | layoutDiscard
  | modeSetQuiet | modeSetStandby | modeSetMaint | modeSetEvac | modeSetBadTarget | evacCancel
  | zoneReset | zoneIsolateOn | zoneIsolateOff | zoneIsolateBadSetting | zoneConfirm | exitSet | solveNow
  | captureTake | captureReadPart0 | captureReadPart1 | captureReadPart2 | captureReadBadPart | incidentRelease
  | noticeSet | noticeClear | counterSet | counterRead
  | freeze | unfreeze | zeroAll | clearOverflow | counterControlBadAction
  | storeSave | storeLoad | addressTake | restart
deriving DecidableEq, Repr

/-- The row of an ENTRY_WRITE by the table code of its fields (Tables 8-5, 8-6); fields with no table code go to the last row (log 3). -/
def writeRow (fields : List Byte) : ReqRow :=
  match fields with
  | [] => .entryWriteOtherTable
  | t :: _ =>
    match t.toNat with
    | 0 => .entryWriteZone | 1 => .entryWriteDetector | 2 => .entryWriteExit | 3 => .entryWriteParameter
    | 4 => .entryWriteLayoutHeader | 5 => .entryWritePlace | 6 => .entryWritePassage | 7 => .entryWriteSign
    | 8 => .entryWriteBoundary | _ => .entryWriteOtherTable

/-- The row of a MODE_SET by its target (Table 8-2); a missing target goes to MODE_SET_BAD_TARGET (log 3). -/
def modeSetRow (fields : List Byte) : ReqRow :=
  match fields with
  | [] => .modeSetBadTarget
  | t :: _ =>
    match t.toNat with
    | 0 => .modeSetQuiet | 1 => .modeSetStandby | 3 => .modeSetEvac | 4 => .modeSetMaint | _ => .modeSetBadTarget

/-- The row of a ZONE_ISOLATE by its setting, its second field (Table 8-2). -/
def zoneIsolateRow (fields : List Byte) : ReqRow :=
  match fields with
  | _ :: v :: _ => if v.toNat = 0 then .zoneIsolateOff else if v.toNat = 1 then .zoneIsolateOn else .zoneIsolateBadSetting
  | _ => .zoneIsolateBadSetting

/-- The row of a CAPTURE_READ by its part (R181). -/
def captureReadRow (fields : List Byte) : ReqRow :=
  match fields with
  | [] => .captureReadBadPart
  | p :: _ =>
    match p.toNat with
    | 0 => .captureReadPart0 | 1 => .captureReadPart1 | 2 => .captureReadPart2 | _ => .captureReadBadPart

/-- The row of a COUNTER_CONTROL by its action (R183). -/
def counterControlRow (fields : List Byte) : ReqRow :=
  match fields with
  | [] => .counterControlBadAction
  | a :: _ =>
    match a.toNat with
    | 0 => .freeze | 1 => .unfreeze | 2 => .zeroAll | 3 => .clearOverflow | _ => .counterControlBadAction

/-- The row that executes a request with this payload (Table 8-2). -/
def requestRow (payload : List Byte) : ReqRow :=
  match payload with
  | [] => .unknownKind
  | k :: fields =>
    match k.toNat with
    | 1 => .statusRead | 2 => .entryRead | 3 => writeRow fields | 4 => .layoutOpen | 5 => .layoutClose | 6 => .layoutDiscard
    | 7 => modeSetRow fields | 8 => .evacCancel | 9 => .zoneReset | 10 => zoneIsolateRow fields | 11 => .zoneConfirm
    | 12 => .exitSet | 13 => .solveNow | 14 => .captureTake | 15 => captureReadRow fields | 16 => .incidentRelease
    | 17 => .noticeSet | 18 => .noticeClear | 19 => .counterSet | 20 => .counterRead | 21 => counterControlRow fields
    | 22 => .storeSave | 23 => .storeLoad | 24 => .addressTake | 25 => .restart | _ => .unknownKind

/-- A REQUEST addressed to 255 is of a broadcast-accepted kind (R175, Table 8-2). While the router is unaddressed ADDRESS_TAKE alone is
taken (R149). -/
def broadcastAccepted (addressed : Bool) (payload : List Byte) : Bool :=
  match requestRow payload with
  | .addressTake => true
  | .modeSetEvac => addressed
  | .evacCancel => addressed
  | _ => false

end Sys2Proof.Machine
end

