-- ==== Sys2Proof/Machine/Ops.lean ====
section
/-! DEFINITION. The shared operations over the state: tables and records by index, timers, notice latches (R176), traffic counters
(R182, R183), pool slots and credits (R150, R152), and the hand-over of a trigger to the route solver (R56, R74). -/

namespace Sys2Proof.Machine

/-! ### Tables -/

/-- The entry at an index: `d` where none is listed. -/
def Tab.read {α : Type} (d : α) : Tab α → Nat → α
  | [], _ => d
  | (k, v) :: t, i => if k = i then v else Tab.read d t i

/-- Write an entry at an index, keeping the canonical form: an entry equal to `d` is not listed. -/
def Tab.write {α : Type} [DecidableEq α] (d : α) : Tab α → Nat → α → Tab α
  | [], i, v => if v = d then [] else [(i, v)]
  | (k, w) :: t, i, v =>
    if i < k then (if v = d then (k, w) :: t else (i, v) :: (k, w) :: t)
    else if i = k then (if v = d then t else (i, v) :: t)
    else (k, w) :: Tab.write d t i v

/-- Rewrite the entries at the indices `0..n-1` by a function of index and entry. -/
def Tab.updateAll {α : Type} [DecidableEq α] (d : α) (n : Nat) (f : Nat → α → α) (t : Tab α) : Tab α :=
  (List.range n).foldl (fun t i => Tab.write d t i (f i (Tab.read d t i))) t

/-- The canonical form: indices strictly rising, no entry equal to what an unlisted index reads as. -/
def Tab.wf {α : Type} [DecidableEq α] (d : α) : Tab α → Bool
  | [] => true
  | (k, v) :: t => decide (v ≠ d) && t.all (fun p => decide (k < p.1)) && Tab.wf d t

/-! ### Records by index -/

/-- The zone entry at an index (R3). -/
def zoneEntry (s : State) (z : Nat) : ZoneEntry := Tab.read ZoneEntry.empty s.tables.zones z
/-- The detector entry at an index (R4). -/
def detectorEntry (s : State) (i : Nat) : DetectorEntry := Tab.read DetectorEntry.empty s.tables.detectors i
/-- The exit entry at an index (R5). -/
def exitEntry (s : State) (i : Nat) : ExitEntry := Tab.read ExitEntry.empty s.tables.exits i
/-- The place entry at an index (R14). -/
def placeOf (l : LayoutTables) (i : Nat) : PlaceEntry := Tab.read PlaceEntry.empty l.places i
/-- The passage entry at an index (R15). -/
def passageOf (l : LayoutTables) (i : Nat) : PassageEntry := Tab.read PassageEntry.empty l.passages i
/-- The sign entry at an index (R16). -/
def signOf (l : LayoutTables) (i : Nat) : SignEntry := Tab.read SignEntry.empty l.signs i
/-- The boundary entry at an index (R17). -/
def boundaryOf (l : LayoutTables) (i : Nat) : BoundaryEntry := Tab.read BoundaryEntry.empty l.boundaries i
/-- The zone runtime record at an index (R33). -/
def zoneRt (s : State) (z : Nat) : ZoneRt := Tab.read ZoneRt.reset s.hazard.zones z
/-- The detector runtime record at an index (R27). -/
def detectorRt (s : State) (i : Nat) : DetectorRt := Tab.read DetectorRt.reset s.hazard.detectors i
/-- The exit runtime record at an index (R45). -/
def exitRt (s : State) (i : Nat) : ExitRt := Tab.read ExitRt.reset s.hazard.exits i
/-- The sign runtime record at an index (R82). -/
def signRt (s : State) (i : Nat) : SignRt := Tab.read SignRt.reset s.signs.records i
/-- The boundary runtime record at an index (R108). -/
def boundaryRt (s : State) (i : Nat) : BoundaryRt := Tab.read BoundaryRt.reset s.boundaries.records i
/-- The latch, enable and detail of the cause with a number (R176). -/
def causeRec (s : State) (n : Nat) : CauseRec := Tab.read CauseRec.reset s.notices.causes n
/-- The counter with a number (R182). -/
def counterAt (s : State) (n : Nat) : Counter := Tab.read Counter.reset s.counters.table n

/-- Replace a zone runtime record. -/
def setZoneRt (s : State) (z : Nat) (r : ZoneRt) : State :=
  { s with hazard := { s.hazard with zones := Tab.write ZoneRt.reset s.hazard.zones z r } }
/-- Replace a detector runtime record. -/
def setDetectorRt (s : State) (i : Nat) (r : DetectorRt) : State :=
  { s with hazard := { s.hazard with detectors := Tab.write DetectorRt.reset s.hazard.detectors i r } }
/-- Replace an exit runtime record. -/
def setExitRt (s : State) (i : Nat) (r : ExitRt) : State :=
  { s with hazard := { s.hazard with exits := Tab.write ExitRt.reset s.hazard.exits i r } }
/-- Replace a sign runtime record. -/
def setSignRt (s : State) (i : Nat) (r : SignRt) : State :=
  { s with signs := { s.signs with records := Tab.write SignRt.reset s.signs.records i r } }
/-- Replace a boundary runtime record. -/
def setBoundaryRt (s : State) (i : Nat) (r : BoundaryRt) : State :=
  { s with boundaries := { s.boundaries with records := Tab.write BoundaryRt.reset s.boundaries.records i r } }
/-- Replace a counter. -/
def setCounter (s : State) (n : Nat) (c : Counter) : State :=
  { s with counters := { s.counters with table := Tab.write Counter.reset s.counters.table n c } }

/-! ### One value for each class -/

/-- The value of a class. -/
def PerClass.get {α : Type} (p : PerClass α) : TClass → α
  | .haz => p.haz | .sign => p.sign | .mgmt => p.mgmt | .ctl => p.ctl

/-- Replace the value of a class. -/
def PerClass.set {α : Type} (p : PerClass α) (c : TClass) (v : α) : PerClass α :=
  match c with
  | .haz => { p with haz := v } | .sign => { p with sign := v } | .mgmt => { p with mgmt := v } | .ctl => { p with ctl := v }

/-- The classes in code order. -/
def allClasses : List TClass := [.haz, .sign, .mgmt, .ctl]

/-- The count of a kind of credit. -/
def Credits.count (c : Credits) : CreditKind → Nat
  | .dedicated k => c.ded.get k
  | .shared => c.shared

/-- Replace the count of a kind of credit. -/
def Credits.put (c : Credits) (k : CreditKind) (n : Nat) : Credits :=
  match k with
  | .dedicated t => { c with ded := c.ded.set t n }
  | .shared => { c with shared := n }

/-- All credits together. -/
def Credits.total (c : Credits) : Nat := c.ded.haz + c.ded.sign + c.ded.mgmt + c.ded.ctl + c.shared

/-! ### Timers -/

/-- A timer of `n` seconds. -/
def seconds (n : Nat) : Timer := some (n * 1000)

/-- A timer of `n` milliseconds. -/
def millis (n : Nat) : Timer := some n

/-! ### Notice latches -/

/-- Latch a cause: its latch is set and its detail replaced, whether or not it was set (R176). -/
def latch (c : Cause) (detail : Nat) (s : State) : State :=
  { s with notices := { s.notices with
      causes := Tab.write CauseRec.reset s.notices.causes (causeNumber c)
        { causeRec s (causeNumber c) with latched := true, detail := detail } } }

/-! ### Traffic counters -/

/-- A counter selects an occurrence: its event code matches, and for an event that reads the class mask the class is in the mask (bit n
for class code n, log 16) (R182). -/
def selects (k : Counter) (ev : CounterEvent) (cls : Option TClass) : Bool :=
  decide (k.event = eventCode ev) &&
    (match cls with
     | none => true
     | some c => k.mask.getLsbD (classCode c))

/-- Add to one counter, setting its overflow flag where the value passes 4294967295 (R183). -/
def counterAdd (k : Counter) (n : Nat) : Counter :=
  { k with value := BitVec.ofNat 32 (k.value.toNat + n),
           overflow := k.overflow || decide (2 ^ 32 ≤ k.value.toNat + n) }

/-- Add to counter `i` what `amount` gives for it, latching COUNTER_OVERFLOW where it overflows (R183). -/
def tallyOne (amount : Counter → Nat) (s : State) (i : Nat) : State :=
  let k := counterAt s i
  let n := amount k
  let s1 := setCounter s i (counterAdd k n)
  if 2 ^ 32 ≤ k.value.toNat + n then latch .counterOverflow i s1 else s1

/-- Some counter overflows by this occurrence and freezes on overflow (R183). -/
def tallyFreezes (amount : Counter → Nat) (s : State) : Bool :=
  [0, 1, 2, 3].any (fun i =>
    decide (2 ^ 32 ≤ (counterAt s i).value.toNat + amount (counterAt s i)) && (counterAt s i).freezeOnOverflow)

/-- One occurrence at the four counters: nothing while frozen; the frozen flag is set after every counter has added (R182, R183). The
counters add in ascending number, the model's choice (log 42): where several overflow, the highest stands as the detail. -/
def tally (amount : Counter → Nat) (s : State) : State :=
  if s.counters.frozen then s
  else
    let s1 := [0, 1, 2, 3].foldl (tallyOne amount) s
    if tallyFreezes amount s then { s1 with counters := { s1.counters with frozen := true } } else s1

/-- One occurrence of an event, with its class where the event reads the class mask (Table 9-5). -/
def count (ev : CounterEvent) (cls : Option TClass) (s : State) : State :=
  tally (fun k => if selects k ev cls then 1 else 0) s

/-! ### Pool slots and credits of Port A -/

/-- Occupied slots of one kind (R150). -/
def occupied (pool : List PoolSlot) (kind : CreditKind) : Nat :=
  (pool.filter (fun p => decide (creditOf p.sharedSlot p.telegram.cls = kind))).length

/-- Slots of one kind (R150). -/
def capacity : CreditKind → Nat
  | .dedicated _ => Config.dedicatedSlots
  | .shared => Config.sharedSlots

/-- The slot numbers of one kind: two for each class, then the eight shared ones (log 27). -/
def slotNumbers : CreditKind → List Nat
  | .dedicated c => [2 * classCode c, 2 * classCode c + 1]
  | .shared => [8, 9, 10, 11, 12, 13, 14, 15]

/-- The lowest free slot of one kind (log 27). -/
def freeSlotOf (pool : List PoolSlot) (kind : CreditKind) : Option Nat :=
  (slotNumbers kind).find? (fun n => pool.all (fun p => decide (p.index ≠ n)))

/-- The credits a grant carries: the free slots of each kind (R151). -/
def freeSlots (pool : List PoolSlot) : Credits :=
  let free (k : CreditKind) : Nat := capacity k - occupied pool k
  ⟨⟨free (.dedicated .haz), free (.dedicated .sign), free (.dedicated .mgmt), free (.dedicated .ctl)⟩, free .shared⟩

/-- A port is up (R138, R140). -/
def PortState.isUp (p : PortState) : Bool := decide (p = .upDual) || decide (p = .upSingle)

/-- Send one credit return upstream: the outstanding count of its kind rises by one (R150). -/
def returnCredit (k : CreditKind) (s : State) : State :=
  { s with portA := { s.portA with
      outstanding := s.portA.outstanding.put k (s.portA.outstanding.count k + 1)
      returns := .credit k :: s.portA.returns } }

/-- Free a pool slot; while Port A is up one credit of the slot's kind is returned upstream (R150). -/
def freeSlot (n : Nat) (s : State) : State :=
  match s.portA.pool.find? (fun p => decide (p.index = n)) with
  | none => s
  | some p =>
    let s1 := { s with portA := { s.portA with pool := s.portA.pool.filter (fun q => decide (q.index ≠ n)) } }
    if s.portA.state.isUp then returnCredit (creditOf p.sharedSlot p.telegram.cls) s1 else s1

/-- The pool slots whose telegrams wait for Port B, in arrival order: the forward queue (R154). -/
def forwardQueue (s : State) : List PoolSlot := s.portA.pool.filter (fun p => p.waiting)

/-- Set whether a slot waits in the forward queue. -/
def setWaiting (n : Nat) (w : Bool) (s : State) : State :=
  { s with portA := { s.portA with
      pool := s.portA.pool.map (fun p => if p.index = n then { p with waiting := w } else p) } }

/-! ### Triggers of the route solver -/

/-- A solve starts: restart count 0, phase TAKE (R56). -/
def startSolve (s : State) : State :=
  { s with solver := { s.solver with phase := .take, snapshot := none, work := [], workSelections := [], tierSweeps := 0,
                                     sweeps := 0, restarts := 0 } }

/-- The phases in which an escalation restarts the solve (R74). -/
def Phase.sweeping (p : Phase) : Bool := decide (p = .safeSweep) || decide (p = .harmSweep) || decide (p = .balance)

/-- The restart limit held in the snapshot (R74). -/
def snapshotRestartLimit (s : State) : Nat := ((s.solver.snapshot).map (·.restartLimit)).getD 0

/-- The solve in flight is restarted: work discarded, restart count raised, SOLVE_ABORT counted, back to TAKE (R74). -/
def restartSolve (s : State) : State :=
  count .solveAbort none
    { s with solver := { s.solver with phase := .take, snapshot := none, work := [], workSelections := [], tierSweeps := 0,
                                       restarts := s.solver.restarts + 1 } }

/-- Hand a trigger to the solver; `escalation` says that it is an escalation (R56, R74, R75). -/
def solveTrigger (escalation : Bool) (s : State) : State :=
  if s.layout = .active then
    if s.solver.phase = .idle then startSolve s
    else if escalation && s.solver.phase.sweeping && decide (s.solver.restarts < snapshotRestartLimit s) then restartSolve s
    else { s with solver := { s.solver with pending := true } }
  else s

end Sys2Proof.Machine
end

