-- ==== Sys2Proof/Machine/Flags.lean ====
section
/-! DEFINITION. Conditions computed from the state: the zone quantities and derived states of the hazard map (R34, R36), exit
usability (R40), what is busy, who is in use, and what waits for Port B with or without a credit (R152 to R156). -/

namespace Sys2Proof.Machine

/-! ### Hazard map -/

/-- A detector entry is in use (R4). -/
def DetectorEntry.inUse (e : DetectorEntry) : Bool := decide (e.address ≠ 0)

/-- The detectors of a zone: the detector entries in use that name it (R34). -/
def detectorsOf (s : State) (z : Nat) : List Nat :=
  (List.range Config.detectorCount).filter (fun i => (detectorEntry s i).inUse && decide ((detectorEntry s i).zone = z))

/-- A faulted detector: SILENT or FAULT set (R34). -/
def DetectorRt.faulted (r : DetectorRt) : Bool := r.silent || r.fault

/-- The ALARM weight of a zone (R34). -/
def alarmWeight (s : State) (z : Nat) : Nat :=
  (detectorsOf s z).foldl (fun w i => if (detectorRt s i).last = .alarm then w + (detectorEntry s i).weight else w) 0

/-- The PRE_ALARM count of a zone's detectors (R34). -/
def preAlarms (s : State) (z : Nat) : Nat :=
  ((detectorsOf s z).filter (fun i => decide ((detectorRt s i).last = .preAlarm) && !(detectorRt s i).faulted)).length

/-- The faulted count of a zone (R34). -/
def faultedCount (s : State) (z : Nat) : Nat :=
  ((detectorsOf s z).filter (fun i => (detectorRt s i).faulted)).length

/-- The derived state of a zone by rank (Table 2-3); `allOut` says that the zone has no detectors in use or that every one is
faulted. -/
def deriveZone (r : ZoneRt) (allOut : Bool) : ZoneState :=
  if r.dense then .dense
  else if r.smoke then .smoke
  else if r.isolate || allOut then .isolated
  else if r.stale then .stale
  else if decide (1 ≤ r.preCount) || r.watch.isSome then .watch
  else .clear

/-- The zone has no detectors in use, or every one of them is faulted (R36). -/
def zoneAllOut (s : State) (z : Nat) : Bool := decide (faultedCount s z = (detectorsOf s z).length)

/-- A zone's derived state (R36). -/
def zoneState (s : State) (z : Nat) : ZoneState := (zoneRt s z).derived

/-- A zone state that is SMOKE or DENSE. -/
def ZoneState.inSmoke (z : ZoneState) : Bool := decide (z = .smoke) || decide (z = .dense)

/-- A zone is latched: its SMOKE or DENSE latch is set (R7). -/
def zoneLatched (s : State) (z : Nat) : Bool := (zoneRt s z).smoke || (zoneRt s z).dense

/-- Some zone has a derived state of a kind. -/
def anyZone (s : State) (f : ZoneState → Bool) : Bool := (List.range Config.zoneCount).any (fun z => f (zoneState s z))

/-- A hazard is present: some zone is WATCH, SMOKE or DENSE (R123). -/
def hazardPresent (s : State) : Bool := anyZone s (fun z => decide (z = .watch) || z.inSmoke)

/-- Some zone is DENSE. -/
def anyDense (s : State) : Bool := anyZone s (fun z => decide (z = .dense))

/-- Some zone is SMOKE or DENSE. -/
def anySmokeOrDense (s : State) : Bool := anyZone s ZoneState.inSmoke

/-- Some zone is latched (R187). -/
def anyLatched (s : State) : Bool := (List.range Config.zoneCount).any (zoneLatched s)

/-- The usability of an exit (R40). -/
def usabilityOf (defined closed : Bool) (z : ZoneState) : Usability :=
  if !defined || closed || decide (z = .dense) then .noUse
  else if z = .smoke then .harmUse
  else .safeUse

/-! ### What is busy, and who is in use -/

/-- The store is SAVING or LOADING (R184). -/
def storeBusy (s : State) : Bool := decide (s.store.op ≠ .idle)

/-- The layout is VALIDATING or RELOADING (R18). -/
def layoutBusy (s : State) : Bool := decide (s.layout = .validating) || decide (s.layout = .reloading)

/-- The BUSY condition of Table 8-3 for table, layout and store requests. -/
def tablesBusy (s : State) : Bool := storeBusy s || layoutBusy s

/-- The router is addressed (R145). -/
def addressed (s : State) : Bool := decide (s.node.address ≠ 0)

/-- The address that strap levels give: 0 where the straps do not give 1..250 (R145). -/
def strapAddress (straps : Byte) : Nat := if 1 ≤ straps.toNat ∧ straps.toNat ≤ 250 then straps.toNat else 0

/-- The number of signs in use: those below the sign count of the active layout (R82). -/
def signsInUse (s : State) : Nat := if s.layout = .active then s.tables.layout.header.signCount else 0

/-- A boundary is defined in the active layout (R108). -/
def boundaryActive (s : State) (b : Nat) : Bool :=
  decide (s.layout = .active) && (boundaryOf s.tables.layout b).defined

/-! ### Conditions under which timers run -/

/-- The refresh timer runs (R93). -/
def refreshRuns (s : State) : Bool :=
  decide (s.layout = .active) && decide (1 ≤ s.tables.layout.header.signCount) && decide (s.mode.mode ≠ .maint)

/-- The refresh spacing in ms: the refresh period divided by the sign count (R93). -/
def refreshSpacing (s : State) : Nat := s.tables.params.refreshPeriod * 1000 / s.tables.layout.header.signCount

/-- The default repeat timer runs (R105). -/
def defaultRuns (s : State) : Bool :=
  decide (s.mode.mode = .maint) && decide (s.layout = .none) && anySmokeOrDense s

/-- The beat timer runs (R159). -/
def beatRuns (s : State) : Bool := addressed s && s.portB.state.isUp

/-! ### Offers to the Port B arbiter -/

/-- What the sign scheduler offers (R95). -/
inductive SignOffer where
  | showDefault
  | head (sign : Nat)
  | refresh (sign : Nat)
deriving DecidableEq, Repr

/-- The head of the update queue: the forced segment stands ahead (R90). -/
def queueHead (s : State) : Option Nat :=
  match s.signs.forced with
  | i :: _ => some i
  | [] => s.signs.ordinary.head?

/-- The first sign at or after the refresh pointer, wrapping, that has a commanded presentation (R94). -/
def refreshCandidate (s : State) : Option Nat :=
  let n := signsInUse s
  ((List.range n).map (fun k => (s.signs.refreshPtr + k) % n)).find? (fun i => (signRt s i).commanded.isSome)

/-- The sign scheduler's offer (R94, R95, R101): the SHOW_DEFAULT first; no SHOW in MAINT or during the freeze; nothing while
unaddressed. -/
def signOffer (s : State) : Option SignOffer :=
  if !addressed s then none
  else if s.signs.defaultSlot then some .showDefault
  else if s.mode.mode = .maint ∨ s.mode.frozen = true ∨ s.layout ≠ .active then none
  else
    match queueHead s with
    | some i => some (.head i)
    | none => if s.signs.refreshDue then (refreshCandidate s).map .refresh else none

/-- A cause is eligible for a NOTICE (R177). -/
def eligible (s : State) (n : Nat) : Bool :=
  (causeRec s n).latched && (!causeMaskable n || ((causeRec s n).enabled && s.notices.master))

/-- The eligible cause of highest priority (R177). -/
def bestCause (s : State) : Option Nat := [1, 2, 3, 4, 5, 6, 7, 8, 9, 10, 11, 12, 13].find? (eligible s)

/-- The cause a NOTICE taken now would report, if the notice unit offers one (R177). -/
def noticeOffer (s : State) : Option Nat :=
  if addressed s && s.notices.spacing.isNone && decide (1 ≤ s.tables.params.panelAddress) &&
      decide (s.tables.params.panelAddress ≤ 250) then bestCause s
  else none

/-- The RESPONSE offered (R156). -/
def responseOffer (s : State) : Option Response := if addressed s then s.requests.slot else none

/-- The boundary whose ADVERT is offered: the lowest member of the due set (R118). -/
def advertOffer (s : State) : Option Nat :=
  if addressed s then (List.range Config.boundaryCount).find? (fun b => (boundaryRt s b).due) else none

/-- The BEAT offered (R156). -/
def beatOffer (s : State) : Option (Fin 8) := if addressed s then s.cadence.slot else none

/-- The telegram in the resend slot may be offered now: nothing while unaddressed (R145, log 39), no SHOW in MAINT (R95) or during the
freeze (log 38). The model's choices: an ADVERT is offered in every layout state (R157 beside R26, log 44), and a NOTICE whatever the panel
address has become, 0 among it, to the address it was built with (R157 beside R12 and R178, log 47). -/
def mayResend (s : State) (t : Telegram) : Bool :=
  addressed s && !(t.isKind .sign 1 && (decide (s.mode.mode = .maint) || s.mode.frozen))

/-- The own telegram offered from the resend slot (R157). One that may not be sent now waits in the slot, the model's choice (logs 38 and
39). -/
def resendOffer (s : State) : Option Telegram :=
  match s.forward.resend with
  | none => none
  | some t => if mayResend s t then some t else none

/-- A telegram of a class waits, in the forward queue or as an own offer (R153). A NOTICE offer is such an offer, the model's choice
(log 43). -/
def waits (s : State) (c : TClass) : Bool :=
  (forwardQueue s).any (fun p => decide (p.telegram.cls = c)) ||
  (match resendOffer s with
   | some t => decide (t.cls = c)
   | none => false) ||
  (match c with
   | .haz => false
   | .sign => (signOffer s).isSome
   | .mgmt => (noticeOffer s).isSome || (responseOffer s).isSome
   | .ctl => (beatOffer s).isSome || (advertOffer s).isSome)

/-- Port B holds a usable credit for a class: dedicated to it, or shared (R152). -/
def usable (s : State) (c : TClass) : Bool := decide (0 < s.portB.credits.ded.get c) || decide (0 < s.portB.credits.shared)

/-- A class is starved (R153). -/
def starved (s : State) (c : TClass) : Bool := s.portB.state.isUp && waits s c && !usable s c

/-- What the arbiter takes (R155). -/
inductive Choice where
  | resend (t : Telegram)
  | forwarded (slot : PoolSlot)
  | beat (n : Fin 8)
  | sign (o : SignOffer)
  | notice (cause : Nat)
  | response (r : Response)
  | advert (boundary : Nat)
deriving DecidableEq, Repr

/-- The class of a choice (R156). -/
def choiceClass : Choice → TClass
  | .resend t => t.cls
  | .forwarded p => p.telegram.cls
  | .beat _ => .ctl
  | .sign _ => .sign
  | .notice _ => .mgmt
  | .response _ => .mgmt
  | .advert _ => .ctl

/-- Side (a) of step 5: the oldest forwarded telegram of class SIGN, MGMT or CTL whose class has a usable credit (R155). -/
def sideA (s : State) : Option Choice :=
  ((forwardQueue s).find? (fun (p : PoolSlot) => decide (p.telegram.cls ≠ .haz) && usable s p.telegram.cls)).map Choice.forwarded

/-- Side (b) of step 5: the router's own NOTICE, RESPONSE or ADVERT, tried in that order (R155). -/
def sideB (s : State) : Option Choice :=
  ((if usable s .mgmt then (noticeOffer s).map Choice.notice else none).or
    (if usable s .mgmt then (responseOffer s).map Choice.response else none)).or
    (if usable s .ctl then (advertOffer s).map Choice.advert else none)

/-- The first sendable item, in the order of R155. -/
def firstSendable (s : State) : Option Choice :=
  (((((match resendOffer s with
        | some t => if usable s t.cls then some (Choice.resend t) else none
        | none => none).or
      (if usable s TClass.haz then ((forwardQueue s).find? (fun (p : PoolSlot) => decide (p.telegram.cls = TClass.haz))).map Choice.forwarded else none)).or
     (if usable s .ctl then (beatOffer s).map Choice.beat else none)).or
    (if usable s .sign then (signOffer s).map Choice.sign else none)).or
   (match s.forward.turn with
    | .a => (sideA s).or (sideB s)
    | .b => (sideB s).or (sideA s)))

end Sys2Proof.Machine
end

