-- ==== Sys2Proof/Machine/Settle.lean ====
section
/-! DEFINITION. What holds at the end of every step: the timers that run while conditions hold start where the conditions have begun to
hold and stop where they have ceased (R93, R105, R153, R159; log 30), and the shape every meaning has. -/

namespace Sys2Proof.Machine

/-- Place a BEAT: the slot holds the next beat number, which advances, 7 being followed by 0 (R159). -/
def placeBeat (s : State) : State :=
  { s with cadence := { s.cadence with slot := some s.cadence.nextBeat, nextBeat := s.cadence.nextBeat + 1 } }

/-- Start the beat timer with the beat period (R159). -/
def startBeatTimer (s : State) : State :=
  { s with cadence := { s.cadence with timer := millis s.tables.params.beatPeriod } }

/-- Restart the beats at number 0: at entry to ALERT or EVAC (R122, R159). -/
def restartBeats (s : State) : State :=
  let s1 := { s with cadence := { s.cadence with nextBeat := 0 } }
  if beatRuns s1 then startBeatTimer (placeBeat s1) else s1

/-- The beat timer and the BEAT slot, where the conditions of R159 begin or cease to hold. -/
def settleBeat (before after : State) : State :=
  if beatRuns after then
    (if beatRuns before then after else startBeatTimer (placeBeat after))
  else { after with cadence := { after.cadence with timer := none, slot := none } }

/-- The refresh timer, where the conditions of R93 begin or cease to hold. -/
def settleRefresh (before after : State) : State :=
  if refreshRuns after then
    (if refreshRuns before then after
     else { after with signs := { after.signs with refreshTimer := millis (refreshSpacing after) } })
  else { after with signs := { after.signs with refreshTimer := none, refreshDue := false } }

/-- The default repeat timer, where the conditions of R105 begin or cease to hold. -/
def settleDefault (before after : State) : State :=
  if defaultRuns after then
    (if defaultRuns before then after
     else { after with signs := { after.signs with defaultTimer := seconds after.tables.params.refreshPeriod } })
  else { after with signs := { after.signs with defaultTimer := none } }

/-- The stall timer of one class: started where the class is starved with no episode open and no timer running, stopped where it is not
starved (R153). -/
def settledStall (s : State) (c : TClass) : Stall :=
  let st := s.forward.stalls.get c
  if starved s c then
    (if !st.episode && st.timer.isNone then { st with timer := millis (s.tables.params.creditStallTime * 100) } else st)
  else { st with timer := none }

/-- The stall timers of the four classes (R153). -/
def settleStalls (s : State) : State :=
  { s with forward := { s.forward with
      stalls := ⟨settledStall s .haz, settledStall s .sign, settledStall s .mgmt, settledStall s .ctl⟩ } }

/-- The end of a step that took the router from `before` to `after`. -/
def settle (before after : State) : State :=
  settleStalls (settleDefault before (settleRefresh before (settleBeat before after)))

/-- A step of the running router: its effect and the end of the step. While the blocks are held at their reset values nothing
happens (R188, R189). -/
def run (s : State) (effect : State → State) : Host.Outcome State Fault Refusal :=
  .next (if s.inReset then s else settle s (effect s))

end Sys2Proof.Machine
end

