-- ==== Sys2Proof/Machine/Captures.lean ====
section
/-! DEFINITION. The capture unit (section 9.3) and the notice unit's timer: triggers, the capture record, the incident lock, and the
meanings of the period and spacing expiries. -/

namespace Sys2Proof.Machine

/-- The number of signs in use whose record meets a condition (R180). -/
def countSigns (s : State) (f : SignRt → Bool) : Nat :=
  ((List.range (signsInUse s)).filter (fun i => f (signRt s i))).length

/-- The capture record of a trigger, as the router's state stands (R180). Its place counts are those of the committed summary, by tier alone.
R14 says that place counts of the capture summary use the distinction of AISLE and JUNCTION, for which R180 and Table 9-4 have no field: that
the record has none is the model's choice (log 49). -/
def captureOf (t : Trigger) (s : State) : Capture :=
  let n (f : Summary → Nat) : Nat := (s.solver.committed.map (fun c => f c.summary)).getD 0
  { trigger := t, uptime := s.uptime, mode := s.mode.mode, generation := s.solver.generation,
    present := s.solver.committed.isSome,
    zones := (List.range Config.zoneCount).map (zoneState s),
    exits := (List.range Config.exitCount).map (fun i => (exitRt s i).usability),
    nTarget := n (·.nTarget), nSafe := n (·.nSafe), nLeastHarm := n (·.nLeastHarm), nNone := n (·.nNone),
    nHeld := countSigns s (·.held), nFaulted := countSigns s (fun r => decide (r.state = .faulted)) }

/-- The empty slot a capture fills: slot 0 where both are empty; none where both are filled (R180). -/
def emptySlot (filled : List FilledSlot) : Option Nat :=
  [0, 1].find? (fun n => filled.all (fun f => decide (f.slot ≠ n)))

/-- Put a capture record into the empty slot, or lose it (R180). -/
def storeCapture (c : Capture) (s : State) : State :=
  match emptySlot s.captures.filled with
  | some n => latch .captureReady n { s with captures := { s.captures with filled := s.captures.filled ++ [⟨n, c⟩] } }
  | none => latch .captureLost (triggerCode c.trigger) { s with captures := { s.captures with overflow := true } }

/-- A capture is triggered and takes the state as it stands (R180). -/
def capture (t : Trigger) (s : State) : State := storeCapture (captureOf t s) s

/-- A capture whose mode and sign counts are stamped from the state before or after a block has acted on the same event, as the free
value `late` says (log 11). Both come from the same side here. At an EVAC_LINE capture the mode is set on both; an INCIDENT capture may take
its sign counts from before where its mode is from after, by a free value of its own (`incidentCapture`). -/
def captureBetween (t : Trigger) (late : Nat → Bool) (before after : State) : Capture :=
  captureOf t (if late before.draws then after else before)

/-- A free value has been used (log 11). -/
def drawn (s : State) : State := { s with draws := s.draws + 1 }

/-- The capture period timer after a (re)start: running where the period is 10..3600 (R179). -/
def captureTimer (s : State) : Timer :=
  if 10 ≤ s.tables.params.capturePeriod then seconds s.tables.params.capturePeriod else none

/-- The capture period timer is started with the period as it stands (R179). -/
def startCaptureTimer (s : State) : State := { s with captures := { s.captures with timer := captureTimer s } }

/-! ### Meanings -/

/-- CAPTURE_PERIOD_EXPIRY (R179, log 2): a PERIODIC capture, and the timer restarts with the period as it stands. -/
def execCapturePeriodExpiry (s : State) : Host.Outcome State Fault Refusal :=
  run s (fun s => if s.captures.timer = some 0 then capture .periodic (startCaptureTimer s) else s)

/-- NOTICE_SPACING_EXPIRY (R177, log 2): the spacing timer stops. -/
def execNoticeSpacingExpiry (s : State) : Host.Outcome State Fault Refusal :=
  run s (fun s => if s.notices.spacing = some 0 then { s with notices := { s.notices with spacing := none } } else s)

end Sys2Proof.Machine
end

