-- ==== Sys2Proof/Machine/Signs.lean ====
section
/-! DEFINITION. The sign scheduler (Chapter 4): the presentation rule, hold and safety forcing, the update queue, confirmation,
SHOW_DEFAULT, and the meanings of its timer expiries. -/

namespace Sys2Proof.Machine

/-! ### The presentation rule -/

/-- The tone of a presentation: in EVAC, for a HOME selection of a tone capable sign, the tone class of the exit its place targets, as
table memory holds it now (R85). -/
def toneOf (s : State) (i : Nat) (sel : Selection) : Nat :=
  if s.mode.mode = .evac ∧ sel.kind = .home ∧ (signOf s.tables.layout i).toneCapable = true then
    (match sel.target with
     | some (.exit e) => (exitEntry s e).toneClass
     | _ => 0)
  else 0

/-- The chase phase for a cost (R85). -/
def chasePhase (s : State) (cost : Nat) : Nat := 7 - cost / s.tables.params.chaseStep % 8

/-- Face, sign mode and brightness by mode and selection (Table 4-3); `none` in MAINT. -/
def faceModeBrightness (m : Mode) (standby : Nat) (sel : Selection) : Option (Nat × SignMode × Nat) :=
  match m with
  | .maint => none
  | .quiet => some (0, .dark, 0)
  | .standby =>
    match sel.kind with
    | .home => some (sel.face, .steady, standby)
    | .route => if sel.tier = .leastHarm then some (sel.face, .flash, 15) else some (sel.face, .steady, standby)
    | .gap => some (sel.face, .flash, 15)
    | .fallback => some (sel.face, .flash, 15)
  | .alert =>
    match sel.kind with
    | .home => some (sel.face, .steady, 15)
    | .route => if sel.tier = .leastHarm then some (sel.face, .flash, 15) else some (sel.face, .steady, 15)
    | .gap => some (sel.face, .flash, 15)
    | .fallback => some (sel.face, .flash, 15)
  | .evac =>
    match sel.kind with
    | .home => some (sel.face, .flash, 15)
    | .route => some (sel.face, .chase, 15)
    | .gap => some (sel.face, .flash, 15)
    | .fallback => some (sel.face, .flash, 15)

/-- The basis of a presentation: DARK in QUIET, else the selection's name (R84). -/
def basisOf (m : Mode) (k : SelKind) : Basis :=
  if m = .quiet then .dark
  else
    match k with
    | .home => .home | .route => .route | .gap => .gap | .fallback => .fallback

/-- The desired presentation of sign `i`: absent in MAINT and where the selections are absent (R83 to R85). -/
def presentation (s : State) (i : Nat) : Option Presentation :=
  match s.signs.selections with
  | none => none
  | some sels =>
    match sels[i]? with
    | none => none
    | some sel =>
      match faceModeBrightness s.mode.mode s.tables.params.standbyBrightness sel with
      | none => none
      | some (face, sm, br) =>
        some ⟨face, sm, if sm = .chase then chasePhase s sel.cost else 0, br, toneOf s i sel, basisOf s.mode.mode sel.kind, sel.tier⟩

/-! ### Hold and safety forcing -/

/-- The face of a commanded presentation; an absent one counts as face 0 (R86). -/
def commandedFace (o : Option Presentation) : Nat := (o.map (·.face)).getD 0

/-- The rank of a tier, the best first (R87). -/
def tierRank (t : Tier) : Nat := tierCode t

/-- A passage's zones: those of its two end places and its via zone when present (R15). -/
def passageZones (l : LayoutTables) (p : Nat) : List Nat :=
  let e := passageOf l p
  [(placeOf l e.endA).zone, (placeOf l e.endB).zone] ++ e.via.toList

/-- The zones touched by what a face of sign `i` names: a passage's zones, or the zone of the sign's place for CROSSING (R87). -/
def faceZones (l : LayoutTables) (i face : Nat) : List Nat :=
  match (signOf l i).faces[face - 1]? with
  | some (.passage p) => passageZones l p
  | some .crossing => [(placeOf l (signOf l i).place).zone]
  | none => []

/-- The commanded face is 1..4 and leads toward a zone that is SMOKE or DENSE in the hazard reference (R87, condition 1). -/
def towardSmoke (s : State) (i : Nat) (c : Option Presentation) : Bool :=
  let f := commandedFace c
  decide (1 ≤ f) && (faceZones s.tables.layout i f).any (fun z => (s.signs.hazardRef.getD z .clear).inSmoke)

/-- A route replaces a face that is none (R87, condition 2). -/
def routeReplaces (c : Option Presentation) (d : Presentation) : Bool :=
  decide (d.basis = .route) &&
    (match c with
     | none => true
     | some p => decide (p.basis ≠ .route))

/-- The desired tier is worse than the commanded one (R87, condition 3). -/
def worseTier (c : Option Presentation) (d : Presentation) : Bool :=
  match c with
  | none => false
  | some p => decide (tierRank p.tier < tierRank d.tier)

/-- A face change is safety-forced (R87). -/
def safetyForced (s : State) (i : Nat) (c : Option Presentation) (d : Presentation) : Bool :=
  towardSmoke s i c || routeReplaces c d || worseTier c d

/-- Two presentations agree in the five fields that are compared (R88). -/
def samePresentation (a b : Presentation) : Bool :=
  decide (a.face = b.face) && decide (a.mode = b.mode) && decide (a.phase = b.phase) && decide (a.brightness = b.brightness) &&
    decide (a.tone = b.tone)

/-! ### The update queue -/

/-- Take a sign out of the update queue. -/
def leaveQueue (i : Nat) (s : State) : State :=
  { s with signs := { s.signs with forced := s.signs.forced.filter (fun j => decide (j ≠ i)),
                                   ordinary := s.signs.ordinary.filter (fun j => decide (j ≠ i)) } }

/-- A sign not in the queue joins the ordinary segment at its tail; one in the queue keeps its place (R88, R90). -/
def joinOrdinary (i : Nat) (s : State) : State :=
  if i ∈ s.signs.forced ∨ i ∈ s.signs.ordinary then s
  else { s with signs := { s.signs with ordinary := s.signs.ordinary ++ [i] } }

/-- A sign joins the forced segment at its tail, leaving the ordinary segment; one already forced keeps its place (R88, R90). -/
def joinForced (i : Nat) (s : State) : State :=
  if i ∈ s.signs.forced then s
  else { s with signs := { s.signs with forced := s.signs.forced ++ [i],
                                        ordinary := s.signs.ordinary.filter (fun j => decide (j ≠ i)) } }

/-- Empty the update queue (R90). -/
def emptyQueue (s : State) : State := { s with signs := { s.signs with forced := [], ordinary := [] } }

/-- Set or clear HELD of a sign. -/
def setHeld (i : Nat) (h : Bool) (s : State) : State := setSignRt s i { signRt s i with held := h }

/-- The cases of Table 4-4. -/
inductive EvalCase where
  | absent | same | sameFace | forced | free | holding
deriving DecidableEq, Repr

/-- The first case of Table 4-4 that applies to sign `i` (R88). -/
def evalCase (s : State) (i : Nat) : EvalCase :=
  let r := signRt s i
  match r.desired with
  | none => .absent
  | some d =>
    if (match r.commanded with
        | none => false
        | some c => samePresentation d c) then .same
    else if d.face = commandedFace r.commanded then .sameFace
    else if safetyForced s i r.commanded d then .forced
    else if r.hold.isNone then .free
    else .holding

/-- Evaluate a sign against the hold and the update queue (R88, Table 4-4). -/
def evaluate (i : Nat) (s : State) : State :=
  match evalCase s i with
  | .absent => leaveQueue i (setHeld i false s)
  | .same => leaveQueue i (setHeld i false s)
  | .sameFace => joinOrdinary i (setHeld i false s)
  | .forced => joinForced i (setHeld i false s)
  | .free => joinOrdinary i (setHeld i false s)
  | .holding => leaveQueue i (setHeld i true s)

/-- Give a sign its new desired presentation and evaluate it (R83). -/
def represent (s : State) (i : Nat) : State :=
  evaluate i (setSignRt s i { signRt s i with desired := presentation s i })

/-- Apply the presentation rule to every sign in use, in sign index order (R83). -/
def presentAll (s : State) : State := (List.range (signsInUse s)).foldl represent s

/-! ### SHOW_DEFAULT -/

/-- Place a SHOW_DEFAULT in its origin slot; discarded while unaddressed, and one that waits is left (R104). -/
def placeDefault (s : State) : State :=
  if addressed s then { s with signs := { s.signs with defaultSlot := true } } else s

/-- A sign in use loses its commanded presentation by a SHOW_DEFAULT and is evaluated (R106). -/
def forgetCommanded (s : State) (i : Nat) : State :=
  if (signRt s i).commanded.isSome then
    evaluate i (setSignRt s i { signRt s i with commanded := none, state := .unknown, noReply := 0, mismatch := 0, confirm := none })
  else s

/-- The scheduler's part of the taking of a SHOW_DEFAULT (R104 to R106), the signs in ascending index (log 12). -/
def showDefaultTaken (s : State) : State :=
  let s1 := { s with signs := { s.signs with defaultSlot := false } }
  let s2 := if defaultRuns s1 then
      { s1 with signs := { s1.signs with defaultTimer := seconds s1.tables.params.refreshPeriod } } else s1
  (List.range (signsInUse s2)).foldl forgetCommanded s2

/-! ### Confirmation -/

/-- A sign enters FAULTED where its no-reply or its mismatch count has reached 3 and it is not FAULTED, which latches SIGN_FAULT
(R99). -/
def faultCheck (i : Nat) (s : State) : State :=
  let r := signRt s i
  if r.state ≠ .faulted ∧ (3 ≤ r.noReply ∨ 3 ≤ r.mismatch) then
    latch .signFault i (setSignRt s i { r with state := .faulted })
  else s

/-- The sign in use with an address and unit (R96). -/
def signWith (s : State) (address unit : Nat) : Option Nat :=
  (List.range (signsInUse s)).find? (fun i =>
    decide ((signOf s.tables.layout i).address = address) && decide ((signOf s.tables.layout i).unit = unit))

/-- Count a discarded take, holding at 65535 (R149). -/
def discardTake (s : State) : State :=
  { s with node := { s.node with discardedTakes := min (s.node.discardedTakes + 1) 65535 } }

/-- Compare a shown face and mode with the commanded presentation (R97). -/
def compareStatus (i : Nat) (face mode : Byte) (s : State) : State :=
  let r := signRt s i
  match r.commanded with
  | none => s
  | some c =>
    if face.toNat = c.face ∧ mode.toNat = signModeCode c.mode then
      setSignRt s i { r with state := .confirmed, noReply := 0, mismatch := 0 }
    else
      faultCheck i (count .statusMismatch none
        (setSignRt s i { r with mismatch := min (r.mismatch + 1) 3,
                                state := if r.state = .faulted then .faulted else .awaiting }))

/-- The lamp fault flag by the health code, latching SIGN_FAULT where it goes from clear to set (R100). -/
def lampStatus (i : Nat) (health : Byte) (s : State) : State :=
  let r := signRt s i
  if health.toNat = 1 then
    (if r.lampFault then s else latch .signFault i (setSignRt s i { r with lampFault := true }))
  else if health.toNat = 0 then setSignRt s i { r with lampFault := false }
  else s

/-- A STATUS handed to the sign scheduler (R96, R97, R100). -/
def takeStatus (t : Telegram) (s : State) : State :=
  match t.payload with
  | unit :: face :: mode :: health :: _ =>
    match (if unit.toNat ≤ 3 then signWith s t.source.toNat unit.toNat else none) with
    | none => discardTake s
    | some i =>
      lampStatus i health
        (compareStatus i face mode
          (setSignRt s i { signRt s i with confirmed := some (face, mode), confirm := none }))
  | _ => discardTake s

/-! ### The scheduler's part of a SHOW taken by the arbiter -/

/-- The payload of a SHOW (Table 7-5). -/
def showPayload (unit : Nat) (p : Presentation) : List Byte :=
  [byte unit, byte p.face, byte (signModeCode p.mode), byte p.phase, byte p.brightness, byte p.tone]

/-- The state of a sign when a SHOW for it is taken: AWAITING unless FAULTED (R92). -/
def awaitingUnlessFaulted (st : SignState) : SignState := if st = .faulted then .faulted else .awaiting

/-- A SHOW from the update queue is taken for sign `i` (R92). -/
def showTaken (i : Nat) (s : State) : State :=
  let r := signRt s i
  let newFace := commandedFace r.desired
  count .showSent none
    (leaveQueue i (setSignRt s i
      { r with hold := if newFace ≠ commandedFace r.commanded then seconds s.tables.params.holdTime else r.hold
               commanded := r.desired
               held := false
               confirm := millis s.tables.params.confirmTime
               state := awaitingUnlessFaulted r.state }))

/-- A refresh SHOW is taken for sign `i` (R94). -/
def refreshTaken (i : Nat) (s : State) : State :=
  let r := signRt s i
  let s1 := setSignRt s i { r with confirm := millis s.tables.params.confirmTime, state := awaitingUnlessFaulted r.state }
  count .showSent none
    { s1 with signs := { s1.signs with refreshPtr := (i + 1) % signsInUse s1, refreshDue := false,
                                       refreshTimer := millis (refreshSpacing s1) } }

/-! ### The scheduler without a layout -/

/-- Stop the timers of every sign runtime record (R103). -/
def stopSignTimers (s : State) : State :=
  { s with signs := { s.signs with
      records := Tab.updateAll SignRt.reset Config.signCapacity (fun _ r => { r with hold := none, confirm := none }) s.signs.records } }

/-- The layout leaves ACTIVE: selections absent, queue empty, refresh stopped, the records' timers stopped (R77, R81, R103). -/
def signsWithdraw (s : State) : State :=
  let s1 := stopSignTimers (emptyQueue s)
  { s1 with signs := { s1.signs with selections := none, refreshTimer := none, refreshDue := false } }

/-- Activation: records reset, queue empty, refresh pointer 0, selections absent (R23, R81, R82). -/
def signsActivate (s : State) : State :=
  let s1 := emptyQueue s
  { s1 with signs := { s1.signs with selections := none, refreshPtr := 0, records := [] } }

/-- RESTART at the sign scheduler; the hazard reference is kept, the timers start where their conditions hold (Table 4-1, R93,
R105). -/
def signsRestart (s : State) : State :=
  { s with signs :=
      { Signs.reset with
        hazardRef := s.signs.hazardRef
        refreshTimer := if refreshRuns s then millis (refreshSpacing s) else none
        defaultTimer := if defaultRuns s then seconds s.tables.params.refreshPeriod else none } }

/-! ### Meanings -/

/-- HOLD_TIMER_EXPIRY (R89, log 2): the timer stops and the sign is evaluated. -/
def execHoldTimerExpiry (sign : Nat) (s : State) : Host.Outcome State Fault Refusal :=
  run s (fun s =>
    if (signRt s sign).hold = some 0 then evaluate sign (setSignRt s sign { signRt s sign with hold := none }) else s)

/-- CONFIRM_TIMER_EXPIRY (R98, R99, log 2): the timer stops and the no-reply count rises, holding at 3. -/
def execConfirmTimerExpiry (sign : Nat) (s : State) : Host.Outcome State Fault Refusal :=
  run s (fun s =>
    let r := signRt s sign
    if r.confirm = some 0 then
      faultCheck sign (setSignRt s sign { r with confirm := none, noReply := min (r.noReply + 1) 3 })
    else s)

/-- REFRESH_TIMER_EXPIRY (R93, log 2): the timer stops and refresh due becomes yes. -/
def execRefreshTimerExpiry (s : State) : Host.Outcome State Fault Refusal :=
  run s (fun s =>
    if s.signs.refreshTimer = some 0 then { s with signs := { s.signs with refreshTimer := none, refreshDue := true } } else s)

/-- DEFAULT_REPEAT_EXPIRY (R105, log 2): a SHOW_DEFAULT is placed and the timer restarts. -/
def execDefaultRepeatExpiry (s : State) : Host.Outcome State Fault Refusal :=
  run s (fun s =>
    if s.signs.defaultTimer = some 0 then
      placeDefault { s with signs := { s.signs with defaultTimer := seconds s.tables.params.refreshPeriod } }
    else s)

end Sys2Proof.Machine
end

