-- ==== Sys2Proof/Machine/Modes.lean ====
section
/-! DEFINITION. The mode controller (Chapter 6): mode changes, automatic transitions, the fire path, the panel lines, and the meanings
of the panel line events. -/

namespace Sys2Proof.Machine

/-! ### Mode changes -/

/-- Set the mode and latch MODE_CHANGED with the mode before as its detail (R122, Table 9-1). -/
def setMode (m : Mode) (s : State) : State :=
  latch .modeChanged (modeCode s.mode.mode) { s with mode := { s.mode with mode := m } }

/-- ALERT and EVAC, at whose entry the beats restart (R122). -/
def Mode.restartsBeats (m : Mode) : Bool := decide (m = .alert) || decide (m = .evac)

/-- ALERT, EVAC and MAINT, at whose entry the freeze ends (R122). -/
def Mode.endsFreeze (m : Mode) : Bool := m.restartsBeats || decide (m = .maint)

/-- End the HOLD_IN freeze (R122, R133). -/
def endFreeze (s : State) : State := { s with mode := { s.mode with frozen := false } }

/-- An EVAC_LINE capture (R179), taken with the mode set and the sign counts before or after the presentation rule (log 11). -/
def evacLineCapture (before after s : State) : State :=
  drawn (storeCapture (captureBetween .evacLine Config.evacLineAfterSigns before after) s)

/-- A change of the mode to `m`; `line` says that the cause is EVAC_IN. The present mode makes no change (R122). -/
def changeMode (m : Mode) (line : Bool) (s : State) : State :=
  if s.mode.mode = m then s
  else
    let s1 := setMode m s
    let s2 := presentAll s1
    let s3 := if m = .maint then emptyQueue s2 else s2
    let s4 := if m.restartsBeats then restartBeats s3 else s3
    let s5 := if m.endsFreeze then endFreeze s4 else s4
    if m = .evac ∧ line = true then evacLineCapture s1 s3 s5 else s5

/-! ### The fire path -/

/-- The fire path becomes IDLE and the line cause clears (R128, R129). -/
def fireIdle (s : State) : State := { s with mode := { s.mode with fireWaiting := false, lineCause := false } }

/-- The mode the ACTIVE case sets (R128). -/
def fireMode (s : State) : Mode :=
  if s.mode.fireEvac || anyDense s then .evac else if hazardPresent s then .alert else .standby

/-- The ACTIVE case of the fire path (R128). Where it follows an activation, its call for a solve comes before the snapshot copy of the
solve that the activation started, which then covers it: the model's choice (log 37). -/
def fireActive (s : State) : State :=
  fireIdle (solveTrigger false (changeMode (fireMode s) s.mode.lineCause s))

/-- The NONE case of the fire path (R129). -/
def fireNone (s : State) : State := fireIdle (latch .routeLost 1 (placeDefault s))

/-- A layout-only reload starts (R24, R25): layout RELOADING, store LOADING. -/
def startReload (s : State) : State :=
  { s with layout := .reloading, store := { s.store with op := .layoutReload } }

/-- The fire path waits for the operation in progress (R127). -/
def fireWait (s : State) : State := { s with mode := { s.mode with fireWaiting := true } }

/-- The EDITING case of the fire path (R129). -/
def fireEditing (s : State) : State := fireWait (startReload (placeDefault s))

/-- The fire path acts by the layout lifecycle state (R127). -/
def fireByLayout (s : State) : State :=
  match s.layout with
  | .active => fireActive s
  | .editing => fireEditing s
  | .none => fireNone s
  | .validating => fireWait s
  | .reloading => fireWait s

/-- A fire cause taken in MAINT: it enters the fire path, or joins the causes of one that waits (R127, R130). `evac` is a cause of EVAC,
`line` an EVAC_IN edge. -/
def fireCause (evac line : Bool) (s : State) : State :=
  if s.mode.fireWaiting then
    { s with mode := { s.mode with fireEvac := s.mode.fireEvac || evac, lineCause := s.mode.lineCause || line } }
  else fireByLayout { s with mode := { s.mode with fireEvac := evac, lineCause := line } }

/-- The operation a waiting fire path waits on has ended (R130). -/
def fireWaitEnd (s : State) : State := if s.mode.fireWaiting then fireByLayout s else s

/-! ### Automatic transitions -/

/-- An EVAC cause outside the start wait: an EVAC entry, or a fire cause in MAINT (R123, R125, R132). -/
def evacCause (line : Bool) (s : State) : State :=
  if s.mode.mode = .maint then fireCause true line s else changeMode .evac line s

/-- A zone escalation at the mode controller (R123, Table 6-3); nothing during the start wait (R134). -/
def escalationAtMode (new : ZoneState) (s : State) : State :=
  if s.mode.startWait then s
  else if new = .dense then evacCause false s
  else
    match s.mode.mode with
    | .quiet => changeMode .alert false s
    | .standby => changeMode .alert false s
    | .alert => s
    | .evac => s
    | .maint => fireCause false false s

/-- A zone change event at the mode controller (R124); nothing during the start wait (R134). -/
def changeAtMode (z : Nat) (new : ZoneState) (s : State) : State :=
  if s.mode.startWait then s
  else
    match s.mode.mode with
    | .quiet => if new = .watch ∧ (zoneEntry s z).wakeOnWatch = true then changeMode .alert false s else s
    | .standby => if hazardPresent s then changeMode .alert false s else s
    | .alert => if hazardPresent s then s else changeMode .standby false s
    | .evac => s
    | .maint => s

/-! ### The panel lines -/

/-- The panel line with a name. -/
def panelLine (s : State) : PanelLineName → PanelLine
  | .evacIn => s.mode.evacLine
  | .holdIn => s.mode.holdLine

/-- Replace a panel line. -/
def setPanelLine (n : PanelLineName) (p : PanelLine) (s : State) : State :=
  match n with
  | .evacIn => { s with mode := { s.mode with evacLine := p } }
  | .holdIn => { s with mode := { s.mode with holdLine := p } }

/-- What an accepted edge does, by line and by the level accepted (R132, R133). -/
def edgeTaken (n : PanelLineName) (l : Level) (s : State) : State :=
  match n, l with
  | .evacIn, .active => evacCause true { s with mode := { s.mode with evacDemand := true } }
  | .evacIn, .inactive => { s with mode := { s.mode with evacDemand := false } }
  | .holdIn, .active =>
    if (s.mode.mode = .standby ∨ s.mode.mode = .quiet) ∧ s.store.op ≠ .save then
      { s with mode := { s.mode with frozen := true } }
    else s
  | .holdIn, .inactive => endFreeze s

/-- Look at a panel line whose lockout is stopped: a present level that differs from the accepted one is accepted as an edge, with a
lockout of 20 ms (R131). -/
def lookAt (n : PanelLineName) (s : State) : State :=
  let p := panelLine s n
  if p.lockout.isNone ∧ p.raw ≠ p.accepted then
    edgeTaken n p.raw (setPanelLine n { p with accepted := p.raw, lockout := millis Config.lockoutMs } s)
  else s

/-- The line is being looked at: the start wait has ended and no lockout of it runs (R131). -/
def lookedAt (n : PanelLineName) (s : State) : Bool := !s.mode.startWait && (panelLine s n).lockout.isNone

/-- The level of a looked-at line appears as `l`; a level that does not differ is no edge (R131). -/
def edge (n : PanelLineName) (l : Level) (s : State) : State :=
  if lookedAt n s then lookAt n (setPanelLine n { panelLine s n with raw := l } s) else s

/-! ### Meanings -/

/-- EVAC_IN_FALLING_EDGE (R132). -/
def execEvacInFallingEdge (s : State) : Host.Outcome State Fault Refusal := run s (edge .evacIn .active)

/-- EVAC_IN_RISING_EDGE (R132). -/
def execEvacInRisingEdge (s : State) : Host.Outcome State Fault Refusal := run s (edge .evacIn .inactive)

/-- HOLD_IN_FALLING_EDGE (R133). -/
def execHoldInFallingEdge (s : State) : Host.Outcome State Fault Refusal := run s (edge .holdIn .active)

/-- HOLD_IN_RISING_EDGE (R133). -/
def execHoldInRisingEdge (s : State) : Host.Outcome State Fault Refusal := run s (edge .holdIn .inactive)

/-- PANEL_LINE_LOCKOUT_EXPIRY (R131, log 2): the timer stops and the present level is compared with the accepted level. -/
def execPanelLineLockoutExpiry (line : PanelLineName) (s : State) : Host.Outcome State Fault Refusal :=
  run s (fun s =>
    if (panelLine s line).lockout = some 0 then lookAt line (setPanelLine line { panelLine s line with lockout := none } s) else s)

/-- PANEL_LINE_LEVEL_CHANGE (R131): the level of a line that is not looked at is kept for the next look. The pins change during a
reset too (log 7). -/
def execPanelLineLevelChange (line : PanelLineName) (level : Level) (s : State) : Host.Outcome State Fault Refusal :=
  .next (if s.inReset then setPanelLine line { panelLine s line with raw := level } s
         else settle s (if lookedAt line s then s else setPanelLine line { panelLine s line with raw := level } s))

end Sys2Proof.Machine
end

