-- ==== Sys2Proof/Machine/Hazard.lean ====
section
/-! DEFINITION. The hazard map (Chapter 2): recomputation, zone events, exit usability, report snooping, loop loss, table loads, zone
requests, and the meanings of its timer expiries. -/

namespace Sys2Proof.Machine

/-! ### Exit usability -/

/-- The usability of an exit as its entry, its runtime and its zone stand (R40). -/
def usabilityNow (s : State) (e : Nat) : Usability :=
  usabilityOf (exitEntry s e).defined (exitRt s e).closed (zoneState s (exitEntry s e).zone)

/-- Recompute the usability of an exit; a change latches EXIT_CHANGED (R40). -/
def refreshUsability (s : State) (e : Nat) : State :=
  if usabilityNow s e = (exitRt s e).usability then s
  else latch .exitChanged e (setExitRt s e { exitRt s e with usability := usabilityNow s e })

/-- Recompute the usability of every exit whose entry names a zone, in ascending index (R40, log 12). -/
def refreshUsabilities (z : Nat) (s : State) : State :=
  ((List.range Config.exitCount).filter (fun e => decide ((exitEntry s e).zone = z))).foldl refreshUsability s

/-! ### Zone events -/

/-- An INCIDENT capture at an escalation of zone `z`, while the incident lock is OPEN; the lock closes (R179). What it stamps of the
blocks that act on the same escalation is free: the mode, the sign counts where the mode is the new one, and the exit usabilities (log 11).
The signs are stamped all before or all after the presentation rule, and the exits likewise of their step, the model's choice (log 50). -/
def incidentCapture (z : Nat) (before after s : State) : State :=
  if s.captures.lockClosed then s
  else
    let c := captureBetween .incident Config.incidentAfterMode before after
    let c1 := if Config.incidentAfterSigns before.draws then c
      else { c with nHeld := countSigns before (·.held), nFaulted := countSigns before (fun r => decide (r.state = .faulted)) }
    let c2 := if Config.incidentAfterUsability before.draws then
        { c1 with exits := (List.range Config.exitCount).map (fun e =>
            if (exitEntry before e).zone = z then usabilityNow before e else (exitRt before e).usability) }
      else c1
    drawn (storeCapture c2 { s with captures := { s.captures with lockClosed := true } })

/-- A zone escalation (R38). -/
def escalate (z : Nat) (new : ZoneState) (s : State) : State :=
  let s1 := solveTrigger true (latch .zoneEscalated z s)
  let s2 := escalationAtMode new s1
  incidentCapture z s1 s2 s2

/-- A zone change event (R39). -/
def zoneChanged (z : Nat) (new : ZoneState) (s : State) : State := changeAtMode z new (solveTrigger false s)

/-- The change of a derived state is an escalation: to SMOKE from other than DENSE, or to DENSE (R38). -/
def isEscalation (old new : ZoneState) : Bool :=
  decide (old ≠ new) && (decide (new = .dense) || (decide (new = .smoke) && decide (old ≠ .dense)))

/-- The event a recomputation of zone `z` raises (R38, R39). -/
def zoneEvents (z : Nat) (old new : ZoneState) (s : State) : State :=
  if old = new then s
  else if isEscalation old new then escalate z new s
  else zoneChanged z new s

/-! ### Recomputation -/

/-- The latches after a recomputation (R34). -/
def relatch (quorum weight pre : Nat) (r : ZoneRt) : ZoneRt :=
  if r.isolate then r
  else { r with smoke := r.smoke || decide (quorum ≤ weight) || decide (1 ≤ weight) || decide (2 ≤ pre),
                dense := r.dense || decide (quorum ≤ weight) }

/-- The watch decay rule: the timer by the fall or rise of the PRE_ALARM count, which is then stored (R35). -/
def rewatch (decay pre : Nat) (r : ZoneRt) : ZoneRt :=
  { r with watch := if 1 ≤ r.preCount ∧ pre = 0 then seconds decay
                    else if r.preCount = 0 ∧ 1 ≤ pre then none else r.watch
           preCount := pre }

/-- The zone record after a recomputation (R34 to R36). -/
def recomputed (s : State) (z : Nat) : ZoneRt :=
  let r := rewatch s.tables.params.watchDecayTime (preAlarms s z)
    (relatch (zoneEntry s z).denseQuorum (alarmWeight s z) (preAlarms s z) (zoneRt s z))
  { r with derived := deriveZone r (zoneAllOut s z) }

/-- A recomputation of a zone, with the event and the usability changes it raises (R34, R40). -/
def recompute (z : Nat) (s : State) : State :=
  let s1 := setZoneRt s z (recomputed s z)
  refreshUsabilities z (zoneEvents z (zoneState s z) (zoneState s1 z) s1)

/-- Recompute zones in the order given. -/
def recomputeAll (zs : List Nat) (s : State) : State := zs.foldl (fun s z => recompute z s) s

/-! ### Reports -/

/-- The detector entry in use with an address and channel (R28). -/
def detectorWith (s : State) (address channel : Nat) : Option Nat :=
  (List.range Config.detectorCount).find? (fun i =>
    (detectorEntry s i).inUse && decide ((detectorEntry s i).address = address) && decide ((detectorEntry s i).channel = channel))

/-- The FAULT flag after an accepted report (R30). -/
def faultAfter (c : Condition) (zoneLatches old : Bool) : Bool :=
  match c with
  | .fault => true
  | .normal => zoneLatches && old
  | .preAlarm => old
  | .alarm => old

/-- The detector record after an accepted report (R29). -/
def heardRecord (c : Condition) (zoneLatches : Bool) (silence : Nat) (r : DetectorRt) : DetectorRt :=
  { r with last := c, heard := true, silence := seconds silence, silent := false, fault := faultAfter c zoneLatches r.fault }

/-- Set or clear the STALE flag of a zone (R37). -/
def setStale (z : Nat) (b : Bool) (s : State) : State := setZoneRt s z { zoneRt s z with stale := b }

/-- An accepted report of condition `c` from detector `i` (R29, R30). -/
def acceptReport (i : Nat) (c : Condition) (s : State) : State :=
  let z := (detectorEntry s i).zone
  let r := detectorRt s i
  let s1 := setDetectorRt s i (heardRecord c (zoneEntry s z).faultLatch s.tables.params.silenceTime r)
  let s2 := if c = .fault ∧ r.fault = false then latch .detectorFault i s1 else s1
  recompute z (setStale z false (count .reportsTaken none s2))

/-- A tabled report with a condition code that is none of the four (R28). -/
def ignoreReport (i : Nat) (s : State) : State :=
  setDetectorRt s i { detectorRt s i with ignored := min ((detectorRt s i).ignored + 1) 255 }

/-- A REPORT handed to the hazard map (R28). -/
def takeReport (t : Telegram) (s : State) : State :=
  match t.payload with
  | channel :: code :: _ =>
    match (if channel.toNat ≤ 3 then detectorWith s t.source.toNat channel.toNat else none) with
    | none => s
    | some i =>
      match conditionOfCode code.toNat with
      | none => ignoreReport i s
      | some c => acceptReport i c s
  | _ => s

/-! ### Loop loss and re-hearing -/

/-- Stop every silence timer (R31). -/
def stopSilence (s : State) : State :=
  { s with hazard := { s.hazard with
      detectors := Tab.updateAll DetectorRt.reset Config.detectorCount (fun _ r => { r with silence := none }) s.hazard.detectors } }

/-- Restart the silence timer of every detector entry in use (R49). -/
def restartSilence (s : State) : State :=
  { s with hazard := { s.hazard with
      detectors := Tab.updateAll DetectorRt.reset Config.detectorCount
        (fun i r => if (detectorEntry s i).inUse then { r with silence := seconds s.tables.params.silenceTime } else r)
        s.hazard.detectors } }

/-- The zones that are not latched. -/
def unlatchedZones (s : State) : List Nat := (List.range Config.zoneCount).filter (fun z => !zoneLatched s z)

/-- Set the STALE flag of every zone that is not latched (R48). -/
def staleUnlatched (s : State) : State :=
  { s with hazard := { s.hazard with
      zones := Tab.updateAll ZoneRt.reset Config.zoneCount (fun _ r => if r.smoke || r.dense then r else { r with stale := true })
        s.hazard.zones } }

/-- Loop loss (R48). -/
def loopLoss (s : State) : State := recomputeAll (unlatchedZones s) (stopSilence (staleUnlatched s))

/-! ### Table loads -/

/-- The zone record of a table load, with no event raised (R50, log 19). -/
def loadZone (s : State) (z : Nat) : State :=
  let s1 := setZoneRt s z { zoneRt s z with stale := true, watch := none, preCount := 0 }
  setZoneRt s1 z (recomputed s1 z)

/-- The usability of an exit at a table load, which latches no notice (R50). -/
def loadUsability (s : State) (e : Nat) : State := setExitRt s e { exitRt s e with usability := usabilityNow s e }

/-- The completion of a table load at the hazard map, with the new tables in place (R50). -/
def tableLoaded (s : State) : State :=
  let s1 := { s with hazard := { s.hazard with detectors := [] } }
  let s2 := if s1.portA.state.isUp then restartSilence s1 else s1
  (List.range Config.exitCount).foldl loadUsability ((List.range Config.zoneCount).foldl loadZone s2)

/-! ### Zone requests -/

/-- Clear the FAULT flags that a ZONE_RESET clears (R42). -/
def clearFaults (z : Nat) (s : State) : State :=
  { s with hazard := { s.hazard with
      detectors := Tab.updateAll DetectorRt.reset Config.detectorCount
        (fun i r => if (detectorEntry s i).inUse ∧ (detectorEntry s i).zone = z ∧ r.last ≠ .fault then { r with fault := false } else r)
        s.hazard.detectors } }

/-- ZONE_RESET of a zone (R42). -/
def resetZone (z : Nat) (s : State) : State :=
  recompute z (clearFaults z (setZoneRt s z { zoneRt s z with smoke := false, dense := false, watch := none }))

/-- ZONE_ISOLATE of a zone (R43). -/
def isolateZone (z : Nat) (on : Bool) (s : State) : State := recompute z (setZoneRt s z { zoneRt s z with isolate := on })

/-- ZONE_CONFIRM of a zone (R44). -/
def confirmZone (z : Nat) (s : State) : State := recompute z (setZoneRt s z { zoneRt s z with smoke := true, dense := true })

/-! ### Meanings -/

/-- SILENCE_TIMER_EXPIRY (R32, log 2). -/
def execSilenceTimerExpiry (detector : Nat) (s : State) : Host.Outcome State Fault Refusal :=
  run s (fun s =>
    if (detectorRt s detector).silence = some 0 then
      recompute (detectorEntry s detector).zone (latch .detectorFault detector
        (setDetectorRt s detector { detectorRt s detector with silence := none, silent := true }))
    else s)

/-- WATCH_DECAY_EXPIRY (R35, log 2). -/
def execWatchDecayExpiry (zone : Nat) (s : State) : Host.Outcome State Fault Refusal :=
  run s (fun s =>
    if (zoneRt s zone).watch = some 0 then recompute zone (setZoneRt s zone { zoneRt s zone with watch := none }) else s)

end Sys2Proof.Machine
end

