-- ==== Sys2Proof/Machine/Boundary.lean ====
section
/-! DEFINITION. The boundary exchange (Chapter 5): taking adverts, the router's own adverts and the due set, and the meanings of its
timer expiries. -/

namespace Sys2Proof.Machine

/-- The advert lifetime: three advert periods (R112). -/
def advertLifetime (s : State) : Timer := seconds (3 * s.tables.params.advertPeriod)

/-! ### Taking adverts -/

/-- The defined boundary of the active layout that holds an id (R111). -/
def boundaryWithId (s : State) (id : Nat) : Option Nat :=
  (List.range Config.boundaryCount).find? (fun b => boundaryActive s b && decide ((boundaryOf s.tables.layout b).id = id))

/-- A matched ADVERT for boundary `b`: the age timer restarts, and a change is handed to the solver (R112). -/
def advertMatched (b cost : Nat) (tier : AdvertTier) (s : State) : State :=
  let r := boundaryRt s b
  if r.state = .live ∧ r.heardCost = cost ∧ r.heardTier = tier then
    setBoundaryRt s b { r with age := advertLifetime s }
  else
    solveTrigger false
      (setBoundaryRt s b { r with age := advertLifetime s, state := .live, heardCost := cost, heardTier := tier })

/-- A well-formed ADVERT is matched, rejected or none of this router's concern (R111). -/
def matchAdvert (source id cost : Nat) (tier : AdvertTier) (s : State) : State :=
  match boundaryWithId s id with
  | none => s
  | some b =>
    if source = (boundaryOf s.tables.layout b).peer then advertMatched b cost tier s
    else count .advertRejected none s

/-- An ADVERT handed to the boundary exchange (R110). -/
def takeAdvert (t : Telegram) (s : State) : State :=
  match t.payload with
  | id :: hi :: lo :: code :: _ =>
    if s.layout = .active ∧ 1 ≤ id.toNat ∧ id.toNat ≤ 63 then
      (match advertTierOfCode code.toNat with
       | none => s
       | some tier => matchAdvert t.source.toNat id.toNat (word16 hi lo) tier s)
    else s
  | _ => s

/-! ### Own adverts -/

/-- What the committed record of a boundary's place says at boundary `b` (R115): poison reverse where the route leaves through `b`, and
no way out where there is none. -/
def advertOf (b : Nat) (r : SolRec) : Advert :=
  match r.tier with
  | .none => ⟨Config.unreachable, .safe⟩
  | .leastHarm => if r.target = some (.boundary b) then ⟨Config.unreachable, .safe⟩ else ⟨r.cost, .leastHarm⟩
  | .safe => if r.target = some (.boundary b) then ⟨Config.unreachable, .safe⟩ else ⟨r.cost, .safe⟩
  | .target => ⟨r.cost, .safe⟩

/-- A boundary joins the due set, unless the router is unaddressed (R116, R117, R119). -/
def joinDue (b : Nat) (s : State) : State :=
  if addressed s then setBoundaryRt s b { boundaryRt s b with due := true } else s

/-- The computed advert of a boundary after a commit, and its joining of the due set (R115, R116). -/
def ownAdvert (records : List SolRec) (s : State) (b : Nat) : State :=
  if boundaryActive s b then
    let a := advertOf b (records.getD (boundaryOf s.tables.layout b).place SolRec.unreachable)
    let s1 := setBoundaryRt s b { boundaryRt s b with computed := some a }
    if (boundaryRt s b).last = some a then s1 else joinDue b s1
  else s

/-- The boundary exchange's part of a commit (R115, R116). -/
def ownAdverts (records : List SolRec) (s : State) : State :=
  (List.range Config.boundaryCount).foldl (ownAdvert records) s

/-- The payload of an ADVERT (Table 7-5). -/
def advertPayload (id : Nat) (a : Advert) : List Byte := num1 id ++ num2 a.cost ++ num1 (advertTierCode a.tier)

/-- The exchange's part of the taking of an ADVERT for boundary `b` (R118). -/
def advertTaken (b : Nat) (s : State) : State :=
  setBoundaryRt s b { boundaryRt s b with due := false, last := (boundaryRt s b).computed }

/-- Empty the advert due set (R109). -/
def clearDue (s : State) : State :=
  { s with boundaries := { s.boundaries with
      records := Tab.updateAll BoundaryRt.reset Config.boundaryCount (fun _ r => { r with due := false }) s.boundaries.records } }

/-- Activation: every record takes its reset value and the advert period timer starts (R108, R109). -/
def boundariesActivate (s : State) : State :=
  { s with boundaries := ⟨[], seconds s.tables.params.advertPeriod⟩ }

/-- The layout leaves ACTIVE: due set emptied, computed adverts absent, timers stopped (R114). -/
def boundariesWithdraw (s : State) : State :=
  { s with boundaries :=
      ⟨Tab.updateAll BoundaryRt.reset Config.boundaryCount (fun _ r => { r with due := false, computed := none, age := none })
        s.boundaries.records, none⟩ }

/-! ### Meanings -/

/-- AGE_TIMER_EXPIRY (R113): the boundary becomes EXPIRED, BOUNDARY_CHANGED is latched and a change is handed to the solver. An ADVERT
taken first has given the timer a fresh lifetime, and no expiry happens (log 2). -/
def execAgeTimerExpiry (boundary : Nat) (s : State) : Host.Outcome State Fault Refusal :=
  run s (fun s =>
    if (boundaryRt s boundary).age = some 0 then
      solveTrigger false (latch .boundaryChanged boundary
        (setBoundaryRt s boundary { boundaryRt s boundary with age := none, state := .expired }))
    else s)

/-- Each boundary with a computed advert joins the due set (R117). -/
def duePeriodic (s : State) (b : Nat) : State :=
  if (boundaryRt s b).computed.isSome then joinDue b s else s

/-- ADVERT_PERIOD_EXPIRY (R117, log 2): the timer restarts and every boundary with a computed advert becomes due. -/
def execAdvertPeriodExpiry (s : State) : Host.Outcome State Fault Refusal :=
  run s (fun s =>
    if s.boundaries.period = some 0 then
      (List.range Config.boundaryCount).foldl duePeriodic
        { s with boundaries := { s.boundaries with period := seconds s.tables.params.advertPeriod } }
    else s)

end Sys2Proof.Machine
end

