-- ==== Sys2Proof/Machine/Solver.lean ====
section
/-! DEFINITION. The route solver (Chapter 3): snapshot, penalties, targets, sweeps, balancing, selection and commit, and the meanings
of the solver's steps. -/

namespace Sys2Proof.Machine

/-! ### The snapshot and the penalties -/

/-- The snapshot copy of TAKE (R60, Table 3-3). -/
def snapshotOf (s : State) : Snapshot :=
  let p := s.tables.params
  { zones := (List.range Config.zoneCount).map (zoneState s)
    zoneDefined := (List.range Config.zoneCount).map (fun z => (zoneEntry s z).defined)
    exits := (List.range Config.exitCount).map (fun e => ⟨exitEntry s e, (exitRt s e).closed, (exitRt s e).bias⟩)
    boundaries := (List.range Config.boundaryCount).map (fun b =>
      ⟨(boundaryRt s b).state, (boundaryRt s b).heardCost, (boundaryRt s b).heardTier⟩)
    watchPenalty := p.watchPenalty, stalePenalty := p.stalePenalty, isolatedPenalty := p.isolatedPenalty,
    smokePenalty := p.smokePenalty, routeCeiling := p.routeCeiling, restartLimit := p.restartLimit,
    balanceRounds := p.balanceRounds, balanceStep := p.balanceStep }

/-- The state of a zone in the snapshot. -/
def Snapshot.zone (sn : Snapshot) (z : Nat) : ZoneState := sn.zones.getD z .isolated

/-- The snapshot of an exit. -/
def Snapshot.exit (sn : Snapshot) (e : Nat) : ExitSnap := sn.exits.getD e ⟨ExitEntry.empty, false, 0⟩

/-- The contribution of a zone state in a tier, `harm` for tier 2; `none` bars the passage (Table 3-4). -/
def Snapshot.contribution (sn : Snapshot) (harm : Bool) (z : Nat) : Option Nat :=
  match sn.zone z with
  | .clear => some 0
  | .watch => some sn.watchPenalty
  | .stale => some sn.stalePenalty
  | .isolated => some (if sn.zoneDefined.getD z false then sn.isolatedPenalty else 0)
  | .smoke => if harm then some sn.smokePenalty else none
  | .dense => none

/-- The penalty of a passage in a tier, each distinct zone it touches counted once; `none` where it is barred (R61). -/
def passagePenalty (sn : Snapshot) (l : LayoutTables) (harm : Bool) (p : Nat) : Option Nat :=
  ((passageZones l p).eraseDups.map (sn.contribution harm)).foldl
    (fun acc c => match acc, c with
      | some a, some n => some (a + n)
      | _, _ => none) (some 0)

/-- The zone penalty of a place's zone (R61): SMOKE and DENSE both give the SMOKE penalty. -/
def Snapshot.placePenalty (sn : Snapshot) (z : Nat) : Nat :=
  if (sn.zone z).inSmoke then sn.smokePenalty else (sn.contribution false z).getD 0

/-! ### Targets -/

/-- The tier of an exit by its entry and runtime in the snapshot: 1, 2, or 0 for neither (R62). -/
def Snapshot.exitTier (sn : Snapshot) (e : Nat) : Nat :=
  let x := sn.exit e
  if x.entry.defined && !x.closed then
    (match sn.zone x.entry.zone with
     | .dense => 0
     | .smoke => 2
     | .isolated => 1 | .stale => 1 | .watch => 1 | .clear => 1)
  else 0

/-- The target cost of an exit at a place in a zone (R62). -/
def targetCost (sn : Snapshot) (biases : List Nat) (e z : Nat) : Nat :=
  (sn.exit e).entry.baseCost + (sn.exit e).bias + biases.getD e 0 + sn.placePenalty z

/-- The active EXIT place that names an exit (R5, R62). -/
def exitPlace (l : LayoutTables) (e : Nat) : Option Nat :=
  (List.range l.header.placeCount).find? (fun p => decide ((placeOf l p).kind = .exit) && decide ((placeOf l p).exitId = some e))

/-- The tier of an exit as a target, 0 for none: an exit whose target cost is above the route ceiling is a target in neither tier
(R62). An exit that no active EXIT place names has no target cost, and keeps the tier of its entry (log 20). -/
def targetTier (sn : Snapshot) (l : LayoutTables) (biases : List Nat) (e : Nat) : Nat :=
  match exitPlace l e with
  | none => sn.exitTier e
  | some p => if targetCost sn biases e (placeOf l p).zone ≤ sn.routeCeiling then sn.exitTier e else 0

/-- The crossing candidate's cost at a boundary in a tier, offered at a place in zone `z` (R63). -/
def crossingCost (sn : Snapshot) (l : LayoutTables) (harm : Bool) (b z : Nat) : Option Nat :=
  let r := sn.boundaries.getD b ⟨.unheard, Config.unreachable, .safe⟩
  let c := r.cost + (boundaryOf l b).crossingCost
  if (boundaryOf l b).defined ∧ r.state = .live ∧ r.cost < sn.routeCeiling ∧ c ≤ sn.routeCeiling ∧
      (if harm then sn.zone z ≠ .dense else r.tier = .safe ∧ (sn.zone z).inSmoke = false) then some c
  else none

/-- The record with which a place starts a tier: TARGET, a crossing, or unreachable (R64, R67). -/
def startRecord (sn : Snapshot) (l : LayoutTables) (biases : List Nat) (harm : Bool) (place : Nat) : SolRec :=
  let e := placeOf l place
  match e.kind with
  | .exit =>
    (match e.exitId with
     | some x =>
       if sn.exitTier x = (if harm then 2 else 1) ∧ targetCost sn biases x e.zone ≤ sn.routeCeiling then
         ⟨targetCost sn biases x e.zone, .target, none, some (.exit x)⟩
       else SolRec.unreachable
     | none => SolRec.unreachable)
  | .boundary =>
    (match e.boundary with
     | some b =>
       (match crossingCost sn l harm b e.zone with
        | some c => ⟨c, .none, some .crossing, some (.boundary b)⟩
        | none => SolRec.unreachable)
     | none => SolRec.unreachable)
  | .aisle => SolRec.unreachable
  | .junction => SolRec.unreachable

/-- The working solution at the start of tier 1 (R64). -/
def setupSafe (sn : Snapshot) (l : LayoutTables) (biases : List Nat) : List SolRec :=
  (List.range l.header.placeCount).map (startRecord sn l biases false)

/-- A place is reached in the working solution. -/
def SolRec.reached (r : SolRec) : Bool := decide (r.cost ≠ Config.unreachable)

/-- The working solution at the start of tier 2: only places still unreachable are set up (R67). -/
def setupHarm (sn : Snapshot) (l : LayoutTables) (biases : List Nat) (work : List SolRec) : List SolRec :=
  (List.range l.header.placeCount).map (fun i =>
    let r := work.getD i SolRec.unreachable
    if r.reached then r else startRecord sn l biases true i)

/-! ### Sweeps -/

/-- The working solution of a sweep, and whether the sweep has changed anything. -/
structure SweepAcc where
  work : List SolRec
  changed : Bool
deriving DecidableEq, Repr

/-- The next of `u` gives way to passage `p` at equal cost: it is CROSSING or a passage of lower index (R65). -/
def yieldsTo (next : Option Way) (p : Nat) : Bool :=
  match next with
  | some .crossing => true
  | some (.passage q) => decide (q < p)
  | none => false

/-- Travel from `u` to `v` over passage `p`, whose length and penalty come to `step` (R65). -/
def travel (ceiling : Nat) (p step : Nat) (u v : Nat) (a : SweepAcc) : SweepAcc :=
  let ru := a.work.getD u SolRec.unreachable
  let rv := a.work.getD v SolRec.unreachable
  let c := rv.cost + step
  if ru.tier = .target ∨ ru.tier = .safe ∨ rv.reached = false ∨ ceiling < c then a
  else if c < ru.cost ∨ (c = ru.cost ∧ yieldsTo ru.next p = true) then
    ⟨a.work.set u { ru with cost := c, next := some (.passage p), target := rv.target }, true⟩
  else if c = ru.cost ∧ ru.next = some (.passage p) ∧ ru.target ≠ rv.target then
    ⟨a.work.set u { ru with target := rv.target }, true⟩
  else a

/-- One passage of a sweep, in its permitted directions (R65). -/
def sweepPassage (sn : Snapshot) (l : LayoutTables) (harm : Bool) (a : SweepAcc) (p : Nat) : SweepAcc :=
  match passagePenalty sn l harm p with
  | none => a
  | some n =>
    let e := passageOf l p
    let go := travel sn.routeCeiling p (e.length + n)
    match e.direction with
    | .aToB => go e.endA e.endB a
    | .bToA => go e.endB e.endA a
    | .twoWay => go e.endB e.endA (go e.endA e.endB a)

/-- One sweep over the active passages in ascending index (R65). -/
def sweepOnce (sn : Snapshot) (l : LayoutTables) (harm : Bool) (work : List SolRec) : SweepAcc :=
  (List.range l.header.passageCount).foldl (sweepPassage sn l harm) ⟨work, false⟩

/-- The places routed in a tier take their tier as its sweeps end: those that hold a next and have no tier yet (R64, R67). -/
def markRouted (t : Tier) (work : List SolRec) : List SolRec :=
  work.map (fun r => if r.tier = .none ∧ r.next.isSome = true then { r with tier := t } else r)

/-! ### Balancing -/

/-- The catchment of an exit: the places whose target it is (R69). -/
def catchment (work : List SolRec) (e : Nat) : Nat :=
  (work.filter (fun r => decide (r.tier ≠ .none) && decide (r.target = some (.exit e)))).length

/-- The catchments of the 32 exits (R69). -/
def catchmentsOf (work : List SolRec) : List Nat := (List.range Config.exitCount).map (catchment work)

/-- The catchment of an exit is above its limit (R69). -/
def overLimit (sn : Snapshot) (catchments : List Nat) (e : Nat) : Bool :=
  let limit := (sn.exit e).entry.catchmentLimit
  decide (1 ≤ limit) && decide (limit < catchments.getD e 0)

/-- The biases after a balancing round (R69). -/
def raiseBiases (sn : Snapshot) (catchments biases : List Nat) : List Nat :=
  (List.range Config.exitCount).map (fun e =>
    if overLimit sn catchments e then biases.getD e 0 + sn.balanceStep else biases.getD e 0)

/-- BALANCE (R69): another round from SAFE_SWEEP, or on to SELECT. -/
def balance (sn : Snapshot) (s : State) : State :=
  let cs := catchmentsOf s.solver.work
  if (List.range Config.exitCount).any (overLimit sn cs) ∧ s.solver.rounds < sn.balanceRounds then
    let bs := raiseBiases sn cs s.solver.biases
    { s with solver := { s.solver with phase := .safeSweep, catchments := cs, biases := bs, rounds := s.solver.rounds + 1,
                                       tierSweeps := 0, work := setupSafe sn s.tables.layout bs } }
  else { s with solver := { s.solver with phase := .select, catchments := cs } }

/-- The end of tier 2 (R67): routed places become LEAST_HARM, and BALANCE follows. -/
def endHarm (sn : Snapshot) (s : State) : State :=
  balance sn { s with solver := { s.solver with work := markRouted .leastHarm s.solver.work } }

/-- The end of tier 1 (R64): routed places become SAFE and tier 2 is set up; with no place unreachable no tier-2 sweep is run (R67). -/
def endSafe (sn : Snapshot) (s : State) : State :=
  let w := setupHarm sn s.tables.layout s.solver.biases (markRouted .safe s.solver.work)
  let s1 := { s with solver := { s.solver with phase := .harmSweep, tierSweeps := 0, work := w } }
  if w.all SolRec.reached then endHarm sn s1 else s1

/-- A sweep in a tier with its end: counted, and the tier ends where it changed nothing or the limit is reached (R66). -/
def sweepStep (harm : Bool) (sn : Snapshot) (s : State) : State :=
  let a := sweepOnce sn s.tables.layout harm s.solver.work
  let s1 := count .sweeps none
    { s with solver := { s.solver with work := a.work, sweeps := s.solver.sweeps + 1, tierSweeps := s.solver.tierSweeps + 1 } }
  if a.changed ∧ s1.solver.tierSweeps < s.tables.layout.header.placeCount + 1 then s1
  else if harm then endHarm sn s1
  else endSafe sn s1

/-! ### Selection and commit -/

/-- The face of a sign that matches a next, by number (R70). -/
def matchingFace (faces : List Way) (next : Option Way) : Option Nat :=
  (faces.findIdx? (fun f => decide (some f = next))).map (· + 1)

/-- The selection of one sign (R70). -/
def selectSign (l : LayoutTables) (work : List SolRec) (i : Nat) : Selection :=
  let e := signOf l i
  let r := work.getD e.place SolRec.unreachable
  match r.tier with
  | .target => ⟨.home, e.homeFace, r.tier, r.cost, r.target⟩
  | .none => ⟨.fallback, e.fallbackFace, r.tier, r.cost, r.target⟩
  | .safe | .leastHarm =>
    match matchingFace e.faces r.next with
    | some f => ⟨.route, f, r.tier, r.cost, r.target⟩
    | none => ⟨.gap, e.fallbackFace, r.tier, r.cost, r.target⟩

/-- The number of places of a tier. -/
def tierCount (work : List SolRec) (t : Tier) : Nat := (work.filter (fun r => decide (r.tier = t))).length

/-- The summary of the working solution (R72). -/
def summaryOf (v : Solver) : Summary :=
  { nTarget := tierCount v.work .target, nSafe := tierCount v.work .safe, nLeastHarm := tierCount v.work .leastHarm,
    nNone := tierCount v.work .none,
    faceGaps := (v.workSelections.filter (fun x => decide (x.kind = .gap))).length,
    rounds := v.rounds, sweeps := v.sweeps, restarts := v.restarts }

/-- The solution that a commit installs (R71, R72, R80). -/
def solutionOf (sn : Snapshot) (l : LayoutTables) (v : Solver) : Committed :=
  { records := v.work, summary := summaryOf v,
    exits := (List.range Config.exitCount).map (fun e =>
      ⟨v.catchments.getD e 0, v.biases.getD e 0, targetTier sn l v.biases e⟩) }

/-- The NONE count of the committed solution, 0 where there is none (R72). -/
def noneCount (v : Solver) : Nat := (v.committed.map (fun c => c.summary.nNone)).getD 0

/-- The sign scheduler's part of a commit (R81, R83). -/
def installSelections (sels : List Selection) (ref : List ZoneState) (s : State) : State :=
  presentAll { s with signs := { s.signs with selections := some sels, hazardRef := ref } }

/-- The solver's own part of a commit (R71, R73, R78). -/
def installSolution (c : Committed) (s : State) : State :=
  { s with solver := { s.solver with
      phase := .idle, snapshot := none, work := [], workSelections := [], tierSweeps := 0, committed := some c,
      generation := s.solver.generation + 1, restarts := 0, recheck := seconds s.tables.params.recheckPeriod } }

/-- COMMIT (R71 to R73). -/
def commit (sn : Snapshot) (s : State) : State :=
  let c := solutionOf sn s.tables.layout s.solver
  let s1 := installSolution c s
  let s2 := if noneCount s.solver = 0 ∧ 1 ≤ c.summary.nNone then latch .routeLost 0 s1 else s1
  let s3 := ownAdverts c.records (installSelections s.solver.workSelections sn.zones (count .solveCommit none s2))
  if s3.solver.pending then startSolve s3 else s3

/-! ### Meanings -/

/-- SOLVE_TAKE (R60, R64): the snapshot copy, the pending flag cleared, biases and rounds 0, and tier 1 set up. -/
def execSolveTake (s : State) : Host.Outcome State Fault Refusal :=
  run s (fun s =>
    if s.solver.phase = .take then
      let sn := snapshotOf s
      let bs := List.replicate Config.exitCount 0
      { s with solver := { s.solver with
          phase := .safeSweep, snapshot := some sn, pending := false, biases := bs, rounds := 0, tierSweeps := 0, catchments := [],
          work := setupSafe sn s.tables.layout bs, workSelections := [] } }
    else s)

/-- SWEEP (R65 to R67, R69). -/
def execSweep (s : State) : Host.Outcome State Fault Refusal :=
  run s (fun s =>
    match s.solver.snapshot with
    | none => s
    | some sn =>
      if s.solver.phase = .safeSweep then sweepStep false sn s
      else if s.solver.phase = .harmSweep then sweepStep true sn s
      else s)

/-- SOLVE_SELECT (R70). -/
def execSolveSelect (s : State) : Host.Outcome State Fault Refusal :=
  run s (fun s =>
    if s.solver.phase = .select then
      { s with solver := { s.solver with
          phase := .commit,
          workSelections := (List.range s.tables.layout.header.signCount).map (selectSign s.tables.layout s.solver.work) } }
    else s)

/-- SOLVE_COMMIT (R71). -/
def execSolveCommit (s : State) : Host.Outcome State Fault Refusal :=
  run s (fun s =>
    match s.solver.snapshot with
    | none => s
    | some sn => if s.solver.phase = .commit then commit sn s else s)

/-- RECHECK_EXPIRY (R58, log 2): the timer stops and a trigger is handed to the solver. -/
def execRecheckExpiry (s : State) : Host.Outcome State Fault Refusal :=
  run s (fun s =>
    if s.solver.recheck = some 0 then solveTrigger false { s with solver := { s.solver with recheck := none } } else s)

end Sys2Proof.Machine
end

