-- ==== Sys2Proof/Machine/Layout.lean ====
section
/-! DEFINITION. The layout lifecycle (section 1.5) and the layout store (Chapter 10): activation, withdrawal, validation, and the meanings
of the ends of validation, reload, load and save. -/

namespace Sys2Proof.Machine

/-! ### Activation and withdrawal -/

/-- Activation: the layout becomes ACTIVE, sign and boundary runtimes are reset, and a solve starts (R23). -/
def activate (s : State) : State := startSolve (boundariesActivate (signsActivate { s with layout := .active }))

/-- The solver with any solve abandoned and the committed solution withdrawn (R76, R77). -/
def withdrawSolver (s : State) : State :=
  { s with solver := { s.solver with phase := .idle, snapshot := none, work := [], workSelections := [], tierSweeps := 0, sweeps := 0,
                                     catchments := [], committed := none, pending := false, restarts := 0, recheck := none } }

/-- A solve in flight that is abandoned counts one SOLVE_ABORT event (R76). -/
def countAbandoned (s : State) : State := if s.solver.phase = .idle then s else count .solveAbort none s

/-- LAYOUT_OPEN, and STORE_LOAD from ACTIVE: the committed solution is withdrawn (R20, R24, R76, R77, R103, R114). -/
def withdraw (s : State) : State := boundariesWithdraw (signsWithdraw (withdrawSolver (countAbandoned s)))

/-! ### Validation -/

/-- A failed validation: check code, table code and index (R21). -/
structure Finding where
  check : Nat
  table : Nat
  index : Nat
deriving DecidableEq, Repr

/-- The first index below `n` that does not meet a condition. -/
def firstBad (n : Nat) (ok : Nat → Bool) : Option Nat := (List.range n).find? (fun i => !ok i)

/-- A finding at the first index that does not meet the condition of a check. -/
def checkEach (check table n : Nat) (ok : Nat → Bool) : Option Finding := (firstBad n ok).map (fun i => ⟨check, table, i⟩)

/-- Check 1: the place count, and at least one EXIT place (Table 1-7). -/
def check1 (l : LayoutTables) : Option Finding :=
  let n := l.header.placeCount
  if n < 1 ∨ Config.placeCapacity < n then some ⟨1, 4, 0⟩
  else if (List.range n).any (fun i => decide ((placeOf l i).kind = .exit)) then none
  else some ⟨1, 5, n⟩

/-- Check 2 of a place: an EXIT place names a defined exit that no EXIT place of lower index uses. -/
def okExit (t : Tables) (i : Nat) : Bool :=
  let e := placeOf t.layout i
  if e.kind = .exit then
    (match e.exitId with
     | none => false
     | some x =>
       (Tab.read ExitEntry.empty t.exits x).defined &&
         (List.range i).all (fun j => !(decide ((placeOf t.layout j).kind = .exit) && decide ((placeOf t.layout j).exitId = some x))))
  else true

/-- Check 3 of a place: a BOUNDARY place names a defined boundary whose place it is. -/
def okBoundaryPlace (l : LayoutTables) (i : Nat) : Bool :=
  let e := placeOf l i
  if e.kind = .boundary then
    (match e.boundary with
     | none => false
     | some b => (boundaryOf l b).defined && decide ((boundaryOf l b).place = i))
  else true

/-- A passage has a place as one of its ends. -/
def touches (l : LayoutTables) (p place : Nat) : Bool :=
  decide ((passageOf l p).endA = place) || decide ((passageOf l p).endB = place)

/-- Check 4 of a place: a JUNCTION place ends at least three active passages. -/
def okJunction (l : LayoutTables) (i : Nat) : Bool :=
  if (placeOf l i).kind = .junction then
    decide (3 ≤ ((List.range l.header.passageCount).filter (fun p => touches l p i)).length)
  else true

/-- Check 5 of a passage. -/
def okPassage (t : Tables) (p : Nat) : Bool :=
  let e := passageOf t.layout p
  let n := t.layout.header.placeCount
  decide (e.endA < n) && decide (e.endB < n) && decide (e.endA ≠ e.endB) && decide (1 ≤ e.length) && decide (e.length ≤ 1000) &&
    (match e.via with
     | none => true
     | some z => (Tab.read ZoneEntry.empty t.zones z).defined)

/-- Check 6 of a boundary. -/
def okBoundary (l : LayoutTables) (b : Nat) : Bool :=
  let e := boundaryOf l b
  if e.defined then
    decide (1 ≤ e.id) && decide (e.id ≤ 63) && decide (e.place < l.header.placeCount) &&
      decide ((placeOf l e.place).kind = .boundary) && decide ((placeOf l e.place).boundary = some b) &&
      decide (1 ≤ e.peer) && decide (e.peer ≤ 250) && decide (e.crossingCost ≤ 500) &&
      (List.range b).all (fun c => !((boundaryOf l c).defined && decide ((boundaryOf l c).id = e.id)))
  else true

/-- A face of a sign at a place is along an active passage from it, or CROSSING at a BOUNDARY place (check 7). -/
def okFace (l : LayoutTables) (place : Nat) (f : Way) : Bool :=
  match f with
  | .passage p => decide (p < l.header.passageCount) && touches l p place
  | .crossing => decide ((placeOf l place).kind = .boundary)

/-- Check 7 of a sign. -/
def okSign (l : LayoutTables) (i : Nat) : Bool :=
  let e := signOf l i
  decide (e.place < l.header.placeCount) && decide (1 ≤ e.faces.length) && e.faces.all (okFace l e.place) &&
    decide (1 ≤ e.homeFace) && decide (e.homeFace ≤ e.faces.length) && decide (1 ≤ e.fallbackFace) &&
    decide (e.fallbackFace ≤ e.faces.length) && decide (1 ≤ e.address) && decide (e.address ≤ 250) &&
    (List.range i).all (fun j => !(decide ((signOf l j).address = e.address) && decide ((signOf l j).unit = e.unit)))

/-- The first failure of the checks, in the order of Table 1-7; none where every check passes (R22). -/
def validate (t : Tables) : Option Finding :=
  let l := t.layout
  (((((((check1 l).or
    (checkEach 2 5 l.header.placeCount (okExit t))).or
    (checkEach 3 5 l.header.placeCount (okBoundaryPlace l))).or
    (checkEach 4 5 l.header.placeCount (okJunction l))).or
    (checkEach 5 6 l.header.passageCount (okPassage t))).or
    (checkEach 6 8 Config.boundaryCount (okBoundary l))).or
    (checkEach 7 7 l.header.signCount (okSign l)))

/-! ### Completion responses -/

/-- The recorded operation has ended: its completion response becomes due, where one was recorded (R169). -/
def completionDue (status : Status) (fields : List Byte) (s : State) : State :=
  match s.requests.operation with
  | none => s
  | some o =>
    { s with requests := { s.requests with
        operation := none
        completionDue := some ⟨o.requester, o.kind :: byte (statusCode status) :: fields, true⟩ } }

/-- The fields of the completion response of LAYOUT_CLOSE (Table 8-2). -/
def validationFields (v : Validation) : List Byte := num1 v.check ++ num1 v.table ++ num2 v.index

/-! ### Ends of the operations -/

/-- Validation passes (R21). The record and the completion response carry 0 for check code, table and index, the model's choice
(log 41). -/
def validationPassed (s : State) : State :=
  completionDue .ok (validationFields ⟨false, 0, 0, 0⟩) (activate { s with validation := ⟨false, 0, 0, 0⟩ })

/-- Validation fails (R21). -/
def validationFailed (f : Finding) (s : State) : State :=
  completionDue .invalid (validationFields ⟨true, f.check, f.table, f.index⟩)
    { s with layout := .editing, validation := ⟨true, f.check, f.table, f.index⟩ }

/-- The image as read is valid: its marker is present and its check matches its contents (R184). `readBack` says that the cells give the
image back as it was written (log 8). -/
def imageValid (r : Store) (readBack : Bool) : Bool := r.marker && readBack && decide (r.check = Config.imageCheck r.image)

/-- The store returns to IDLE with its valid flag as given. -/
def storeIdle (valid : Bool) (s : State) : State := { s with store := { s.store with op := .idle, valid := valid } }

/-- No layout: every layout table takes its empty value and the layout becomes NONE (R24). -/
def noLayout (s : State) : State := { s with layout := .none, tables := { s.tables with layout := LayoutTables.empty } }

/-- The layout tables of the image replace those of table memory (R24). -/
def takeImageLayout (s : State) : State := { s with tables := { s.tables with layout := s.store.image.layout } }

/-- Every table and the parameter set of the image replace those of table memory, and the hazard map takes the load (R50, R187). -/
def takeImage (s : State) : State := tableLoaded { s with tables := s.store.image }

/-! ### Meanings -/

/-- VALIDATION_END (R21, R25). -/
def execValidationEnd (s : State) : Host.Outcome State Fault Refusal :=
  run s (fun s =>
    if s.layout = .validating then
      fireWaitEnd (match validate s.tables with
        | none => validationPassed s
        | some f => validationFailed f s)
    else s)

/-- LAYOUT_RELOAD_END (R24, R25, R187). -/
def execLayoutReloadEnd (checkOk : Bool) (s : State) : Host.Outcome State Fault Refusal :=
  run s (fun s =>
    if s.store.op = .layoutReload then
      fireWaitEnd (if s.store.valid && imageValid s.store checkOk then
        completionDue .ok [] (activate (takeImageLayout (storeIdle true s)))
      else completionDue .noLayout [] (noLayout (storeIdle false s)))
    else s)

/-- STORE_LOAD_END (R187). -/
def execStoreLoadEnd (checkOk : Bool) (s : State) : Host.Outcome State Fault Refusal :=
  run s (fun s =>
    if s.store.op = .load then
      fireWaitEnd (if imageValid s.store checkOk then
        latch .storeDone 2 (activate (takeImage (storeIdle s.store.valid s)))
      else latch .storeDone 3 (noLayout (storeIdle false s)))
    else s)

/-- A save that ends OK: the image holds the tables with their check, its marker stands and the save count rises (R185). Every entry is
saved, also those beyond the active counts, which R13 would leave out: the model's choice (log 46). -/
def saved (s : State) : State :=
  { s with store := { op := .idle, valid := true, marker := true, check := Config.imageCheck s.tables, image := s.tables,
                      saveCount := s.store.saveCount + 1 } }

/-- STORE_SAVE_END (R185). A save that ends FAILED is held to leave the tables and the check of the earlier image, the model's choice
(log 45): with the marker erased nothing reads them. -/
def execStoreSaveEnd (compareOk : Bool) (s : State) : Host.Outcome State Fault Refusal :=
  run s (fun s =>
    if s.store.op = .save then
      (if compareOk then latch .storeDone 0 (saved s)
       else latch .storeDone 1 { s with store := { s.store with op := .idle, valid := false, marker := false } })
    else s)

end Sys2Proof.Machine
end

