-- ==== Sys2Proof/Machine/Loop.lean ====
section
/-! DEFINITION. The hall loop (Chapter 7): Port A and Port B, arrivals, the pool and credits, the arbiter, beats and the round check, and
the meanings of the loop's events. -/

namespace Sys2Proof.Machine

/-! ### The round check and the cadence -/

/-- A beat has missed its limit (R160, R161). -/
def beatMissed (s : State) : State :=
  let s1 := count .beatLost none s
  let m := min (s1.cadence.missCount + 1) 3
  if m = 3 ∧ s1.cadence.loopOpen = false then
    latch .loopDegraded 5 { s1 with cadence := { s1.cadence with missCount := m, loopOpen := true } }
  else { s1 with cadence := { s1.cadence with missCount := m } }

/-- The entry at a position of the round check list expires: it is removed and its beat is missed (R160). -/
def expireEntry (i : Nat) (s : State) : State :=
  if i < s.cadence.round.length then
    beatMissed { s with cadence := { s.cadence with round := s.cadence.round.eraseIdx i } }
  else s

/-- An own BEAT is sent: an entry is added at the tail, the oldest expiring first where the list is full (R160). -/
def beatSent (n : Fin 8) (s : State) : State :=
  let s1 := if Config.roundListLimit ≤ s.cadence.round.length then expireEntry 0 s else s
  { s1 with cadence := { s1.cadence with
      slot := none, round := s1.cadence.round ++ [⟨n, millis s1.tables.params.roundLimit⟩] } }

/-- A stripped own BEAT: it returns within its limit, or is late (R160, R161). -/
def beatReturned (t : Telegram) (s : State) : State :=
  match t.payload with
  | [] => s
  | b :: _ =>
    if 8 ≤ b.toNat then s
    else
      match s.cadence.round.findIdx? (fun e => decide (e.beat.val = b.toNat)) with
      | some i => { s with cadence := { s.cadence with round := s.cadence.round.eraseIdx i, missCount := 0, loopOpen := false } }
      | none => { s with cadence := { s.cadence with lateBeats := min (s.cadence.lateBeats + 1) 65535 } }

/-! ### Taking from the loop -/

/-- A REQUEST joins the request queue, or is dropped and counted where the queue is full (R149, R164). -/
def enqueueRequest (t : Telegram) (broadcast : Bool) (s : State) : State :=
  if s.requests.queue.length < Config.requestQueueLimit then
    { s with requests := { s.requests with queue := s.requests.queue ++ [⟨t.source, broadcast, t.payload⟩] } }
  else count .requestDropped none s

/-- A telegram addressed to the router is taken by kind (R149). -/
def takeAddressed (t : Telegram) (s : State) : State :=
  if t.isKind .mgmt 1 then enqueueRequest t false s
  else if t.isKind .sign 3 then takeStatus t s
  else discardTake s

/-- What is taken of a telegram addressed to 255, which is forwarded as well (R149). -/
def takeBroadcast (t : Telegram) (s : State) : State :=
  if t.isKind .mgmt 1 then (if broadcastAccepted (addressed s) t.payload then enqueueRequest t true s else s)
  else if t.isKind .ctl 2 ∧ addressed s = true then takeAdvert t s
  else s

/-! ### Sending at Port B -/

/-- The address as a telegram carries it. -/
def ownAddress (s : State) : Byte := byte s.node.address

/-- The kind of credit the arbiter takes for a class: dedicated where that count is above 0, else shared (R152). -/
def creditTaken (s : State) (c : TClass) : CreditKind := if 0 < s.portB.credits.ded.get c then .dedicated c else .shared

/-- Take one credit for a telegram of a class; a stall episode of the class closes (R152, R153). -/
def takeCredit (c : TClass) (s : State) : State :=
  { s with portB := { s.portB with
             credits := s.portB.credits.put (creditTaken s c) (s.portB.credits.count (creditTaken s c) - 1) }
           forward := { s.forward with stalls := s.forward.stalls.set c ⟨none, false⟩ } }

/-- The telegram enters transmission under a credit of its class, its shared flag as that credit (R152, R155). -/
def transmit (t : Telegram) (slot : Option Nat) (s : State) : State :=
  let s1 := takeCredit t.cls s
  { s1 with forward := { s1.forward with tx := some ⟨{ t with shared := decide (creditTaken s t.cls = .shared) }, slot⟩ } }

/-- Pass the turn of step 5 to a side (R155). -/
def passTurn (x : Side) (s : State) : State := { s with forward := { s.forward with turn := x } }

/-- A forwarded telegram is taken: it leaves the forward queue and counts one FORWARDED event; taken at step 5 it passes the turn to
side (b) (R154, R155). -/
def takeForwarded (p : PoolSlot) (s : State) : State :=
  let s1 := count .forwarded (some p.telegram.cls) (setWaiting p.index false (transmit p.telegram (some p.index) s))
  if p.telegram.cls = .haz then s1 else passTurn .b s1

/-- A telegram of the router's own, with its address as source (R156). -/
def ownTelegram (s : State) (dest : Byte) (cls : TClass) (kind : BitVec 5) (payload : List Byte) : Telegram :=
  ⟨dest, ownAddress s, cls, false, kind, payload⟩

/-- The latched causes as a set, bit n - 1 for cause n (R176). -/
def latchSet (s : State) : Nat :=
  ((List.range 13).map (fun i => if (causeRec s (i + 1)).latched then 2 ^ i else 0)).foldl (· + ·) 0

/-- The payload of a NOTICE for a cause, as the state stands (R177, Table 7-5). -/
def noticePayload (s : State) (n : Nat) : List Byte :=
  num1 n ++ num1 (causeRec s n).detail ++ num1 (modeCode s.mode.mode) ++ num2 s.solver.generation.toNat ++ num2 (latchSet s)

/-- The notice unit's part of the taking of a NOTICE: the latch sent is cleared, its detail kept, and the spacing timer starts (R177). -/
def noticeTaken (n : Nat) (s : State) : State :=
  { s with notices := { s.notices with
      causes := Tab.write CauseRec.reset s.notices.causes n { causeRec s n with latched := false }
      spacing := millis s.tables.params.noticeSpacing } }

/-- The request handler's part of the taking of a RESPONSE: the slot empties, and the head entry leaves the queue unless the response is
a completion response (R164, R169). -/
def responseTaken (r : Response) (s : State) : State :=
  { s with requests := { s.requests with
      slot := none, queue := if r.completion then s.requests.queue else s.requests.queue.tail } }

/-- The SHOW that carries a presentation to sign `i` (R92, R94, Table 7-5). -/
def showTelegram (s : State) (i : Nat) (p : Presentation) : Telegram :=
  ownTelegram s (byte (signOf s.tables.layout i).address) .sign 1 (showPayload (signOf s.tables.layout i).unit p)

/-- The sign scheduler's offer is taken (R92, R94, R104). -/
def takeSign (o : SignOffer) (s : State) : State :=
  match o with
  | .showDefault => showDefaultTaken (transmit (ownTelegram s 255 .sign 2 []) none s)
  | .head i =>
    (match (signRt s i).desired with
     | some p => showTaken i (transmit (showTelegram s i p) none s)
     | none => s)
  | .refresh i =>
    (match (signRt s i).commanded with
     | some p => refreshTaken i (transmit (showTelegram s i p) none s)
     | none => s)

/-- The ADVERT of a boundary is taken (R118). -/
def takeOwnAdvert (b : Nat) (s : State) : State :=
  let a := ((boundaryRt s b).computed).getD ⟨Config.unreachable, .safe⟩
  advertTaken b (transmit (ownTelegram s 255 .ctl 2 (advertPayload (boundaryOf s.tables.layout b).id a)) none s)

/-- The arbiter takes an item: its credit, the transmitter, and the part of the block that owns it (R155, R156). A telegram from the resend
slot keeps the source it was built with (R157), also where the address has changed since, the model's choice (log 39). -/
def takeChoice (c : Choice) (s : State) : State :=
  match c with
  | .resend t =>
    let s1 := transmit t none s
    { s1 with forward := { s1.forward with resend := none } }
  | .forwarded p => takeForwarded p s
  | .beat n => beatSent n (transmit (ownTelegram s 255 .ctl 1 (num1 n.val)) none s)
  | .sign o => takeSign o s
  | .notice n =>
    passTurn .a (noticeTaken n
      (transmit (ownTelegram s (byte s.tables.params.panelAddress) .mgmt 3 (noticePayload s n)) none s))
  | .response r => passTurn .a (responseTaken r (transmit (ownTelegram s r.dest .mgmt 2 r.payload) none s))
  | .advert b => passTurn .a (takeOwnAdvert b s)

/-- The arbiter's decision: with the transmitter idle and Port B up, the first sendable item is taken (R155). -/
def arbitrate (s : State) : State :=
  if s.forward.tx.isNone ∧ s.portB.state.isUp = true then
    (match firstSendable s with
     | some c => takeChoice c s
     | none => s)
  else s

/-! ### Forwarding -/

/-- The conditions of cut-through for a class, the transmitter idle with nothing to send (R154, log 17). -/
def cutsThrough (s : State) (c : TClass) : Bool :=
  decide (s.portB.state = .upDual) && (forwardQueue s).isEmpty && s.forward.tx.isNone && (firstSendable s).isNone && usable s c

/-- A telegram in pool slot `n` is passed to Port B: cut through, or queued (R154). FORWARDED is counted before CUT_THROUGH, the model's
choice (log 36). -/
def forwardSlot (n : Nat) (sharedSlot : Bool) (t : Telegram) (s : State) : State :=
  if cutsThrough s t.cls then count .cutThrough (some t.cls) (takeForwarded ⟨n, sharedSlot, t, true⟩ s)
  else count .queued (some t.cls) (setWaiting n true s)

/-! ### Arrival at Port A -/

/-- The source of a telegram is the router's own address. -/
def isOwn (s : State) (t : Telegram) : Bool := decide (t.source.toNat = s.node.address)

/-- The source of a telegram is the retired address (R146). -/
def isRetired (s : State) (t : Telegram) : Bool :=
  match s.node.retired with
  | none => false
  | some r => decide (t.source.toNat = r.address)

/-- Arrival sorting of the telegram in slot `n` (R148, Table 7-6), but for the snooping of REPORTs. A broadcast is forwarded before it is
taken, the model's choice (log 36): its forwarding events are counted before REQUEST_DROPPED and ADVERT_REJECTED. -/
def sortArrival (n : Nat) (sharedSlot : Bool) (t : Telegram) (s : State) : State :=
  if addressed s && (isOwn s t || isRetired s t) then
    let s1 := freeSlot n s
    if isOwn s t && t.isKind .ctl 1 then beatReturned t s1 else s1
  else if addressed s && decide (t.dest.toNat = s.node.address) then takeAddressed t (freeSlot n s)
  else if t.dest.toNat = 255 then takeBroadcast t (forwardSlot n sharedSlot t s)
  else forwardSlot n sharedSlot t s

/-- A REPORT is snooped in every case of the sorting (R148). -/
def snoopReport (t : Telegram) (s : State) : State := if t.isKind .haz 1 then takeReport t s else s

/-- The telegram takes pool slot `n` under its credit, which becomes used (R147, R150). -/
def fillSlot (n : Nat) (t : Telegram) (s : State) : State :=
  let k := creditOf t.shared t.cls
  { s with portA := { s.portA with
      outstanding := s.portA.outstanding.put k (s.portA.outstanding.count k - 1)
      pool := s.portA.pool ++ [⟨n, t.shared, t, false⟩] } }

/-- The pool slot that an arrival with a good check takes: none where no credit of its kind is outstanding (R147). -/
def arrivalSlot (s : State) (t : Telegram) : Option Nat :=
  if s.portA.outstanding.count (creditOf t.shared t.cls) = 0 then none
  else freeSlotOf s.portA.pool (creditOf t.shared t.cls)

/-- An arrival with a good check (R147). It is sorted before a REPORT is snooped, the model's choice (log 36): its forwarding events are
counted before REPORTS_TAKEN. -/
def goodArrival (t : Telegram) (s : State) : State :=
  match arrivalSlot s t with
  | none => count .overrun (some t.cls) s
  | some n => snoopReport t (sortArrival n t.shared t (fillSlot n t s))

/-- An arrival with a bad check: counted, and where its header names an outstanding credit one of that kind is returned at once (R143). -/
def badArrival (credit : Option CreditKind) (s : State) : State :=
  let s1 := count .checkFail none s
  match credit with
  | none => s1
  | some k =>
    if 0 < s1.portA.outstanding.count k then { s1 with portA := { s1.portA with returns := .credit k :: s1.portA.returns } } else s1

/-- A telegram has been seen on the lanes in UP (R138). -/
def seeTelegram (s : State) : State :=
  { s with portA := { s.portA with
      lane0 := { s.portA.lane0 with fillSeen := s.portA.lane0.fillSeen || decide (s.portA.lane0.state = .up) }
      lane1 := { s.portA.lane1 with fillSeen := s.portA.lane1.fillSeen || decide (s.portA.lane1.state = .up) } } }

/-! ### Port A lanes and training -/

/-- A lane of Port A. -/
def PortA.lane (a : PortA) : Lane → LaneA
  | .lane0 => a.lane0
  | .lane1 => a.lane1

/-- Replace a lane of Port A. -/
def setLane (n : Lane) (x : LaneA) (s : State) : State :=
  match n with
  | .lane0 => { s with portA := { s.portA with lane0 := x } }
  | .lane1 => { s with portA := { s.portA with lane1 := x } }

/-- A Port A lane is UP. -/
def LaneA.isUp (x : LaneA) : Bool := decide (x.state = .up)

/-- Some lane of Port A is UP. -/
def anyLaneUp (s : State) : Bool := s.portA.lane0.isUp || s.portA.lane1.isUp

/-- The up state that the lanes give: UP_DUAL with both lanes UP, else UP_SINGLE (R138, R140). -/
def upStateOf (l0 l1 : Bool) : PortState := if l0 && l1 then .upDual else .upSingle

/-- Port A trains with a lane UP: old credits are void, a fresh grant is sent, the port is up, and the silence timers restart (R138,
R139, R151). -/
def trainPortA (s : State) : State :=
  let g := freeSlots s.portA.pool
  restartSilence
    { s with portA := { s.portA with
        lane0 := { s.portA.lane0 with fillSeen := false }, lane1 := { s.portA.lane1 with fillSeen := false }
        state := upStateOf s.portA.lane0.isUp s.portA.lane1.isUp
        outstanding := g, returns := .grant g :: s.portA.returns } }

/-- Port A enters DOWN: credits void, LOOP_DEGRADED latched, loop loss (R139). -/
def portADown (s : State) : State :=
  loopLoss (latch .loopDegraded 1 { s with portA := { s.portA with state := .down, outstanding := Credits.zero } })

/-- Port A's state after a lane in UP has gone DOWN (R138). -/
def afterLaneLoss (s : State) : State :=
  if s.portA.state.isUp then
    (if anyLaneUp s then { s with portA := { s.portA with state := upStateOf s.portA.lane0.isUp s.portA.lane1.isUp } }
     else portADown s)
  else s

/-- Port A's state after a lane has become UP (R138). -/
def afterLaneUp (s : State) : State :=
  if s.portA.state.isUp then { s with portA := { s.portA with state := upStateOf s.portA.lane0.isUp s.portA.lane1.isUp } }
  else trainPortA s

/-! ### Port B -/

/-- A transmission cut off by Port B entering DOWN: a forwarded telegram waits again at its place, an own one goes to the resend slot
(R141, R157). The model's choices: one cut off after the router became unaddressed is kept there (log 39), and one cut off takes the place
of an older one that still waits for a credit (log 40); a cut-through one that waits here for the first time counts no QUEUED (log 52). -/
def cutOff (s : State) : State :=
  match s.forward.tx with
  | none => s
  | some x =>
    let s1 := { s with forward := { s.forward with tx := none } }
    match x.slot with
    | some n => setWaiting n true s1
    | none => { s1 with forward := { s1.forward with resend := some x.telegram } }

/-- Port B enters DOWN (R140, R141). -/
def portBDown (s : State) : State :=
  latch .loopDegraded 3 (cutOff { s with portB := { s.portB with state := .down, credits := Credits.zero, heldGrant := none } })

/-- Port B comes up with the credits of a grant (R140, R152). -/
def portBUp (g : Credits) (s : State) : State :=
  { s with portB := { s.portB with state := upStateOf s.portB.lane0Up s.portB.lane1Up, credits := g, heldGrant := none } }

/-- The Port B lanes are as reported (R140). -/
def laneReport (l0 l1 : Bool) (s : State) : State :=
  let lost := (s.portB.lane0Up && !l0) || (s.portB.lane1Up && !l1)
  let s1 := { s with portB := { s.portB with lane0Up := l0, lane1Up := l1 } }
  let s2 := if lost then latch .loopDegraded 2 s1 else s1
  if s2.portB.state.isUp then
    (if l0 || l1 then { s2 with portB := { s2.portB with state := upStateOf l0 l1 } } else portBDown s2)
  else
    match s2.portB.heldGrant with
    | some g => if l0 || l1 then portBUp g s2 else s2
    | none => s2

/-- A grant taken on the return lane (R140, R152). -/
def takeGrant (g : Credits) (s : State) : State :=
  if s.portB.state.isUp then { s with portB := { s.portB with credits := g } }
  else if s.portB.lane0Up || s.portB.lane1Up then portBUp g s
  else { s with portB := { s.portB with heldGrant := some g } }

/-! ### Meanings -/

/-- TELEGRAM_ARRIVAL (R143, R147, R148): nothing is received while Port A is DOWN (Table 7-2). -/
def execTelegramArrival (bytes : List Byte) (s : State) : Host.Outcome State Fault Refusal :=
  run s (fun s =>
    if s.portA.state = .down then s
    else
      match parseTelegram bytes with
      | .bad credit => badArrival credit (seeTelegram s)
      | .good t => goodArrival t (seeTelegram s))

/-- LANE_ACTIVITY_APPEARS (R137). -/
def execLaneActivityAppears (lane : Lane) (s : State) : Host.Outcome State Fault Refusal :=
  run s (fun s =>
    if (s.portA.lane lane).state = .down then
      setLane lane { s.portA.lane lane with state := .restoring, restore := millis s.tables.params.laneRestoreTime } s
    else s)

/-- A Port A lane in UP goes DOWN; a telegram cut off by the loss counts as a bad check (R137, R143). -/
def laneLost (lane : Lane) (partly : Bool) (s : State) : State :=
  let s1 := latch .loopDegraded 0 (setLane lane { s.portA.lane lane with state := .down, restore := none } s)
  afterLaneLoss (if partly then count .checkFail none s1 else s1)

/-- LANE_LOSS_TIMEOUT (R137, R139). -/
def execLaneLossTimeout (lane : Lane) (partlyReceiving : Bool) (s : State) : Host.Outcome State Fault Refusal :=
  run s (fun s =>
    match (s.portA.lane lane).state with
    | .down => s
    | .restoring => setLane lane { s.portA.lane lane with state := .down, restore := none } s
    | .up => laneLost lane partlyReceiving s)

/-- LANE_RESTORE_EXPIRY (R137, R138, log 2). -/
def execLaneRestoreExpiry (lane : Lane) (s : State) : Host.Outcome State Fault Refusal :=
  run s (fun s =>
    if (s.portA.lane lane).state = .restoring ∧ (s.portA.lane lane).restore = some 0 then
      afterLaneUp (setLane lane { s.portA.lane lane with state := .up, restore := none } s)
    else s)

/-- TRAINING_REQUEST_SEEN (R138): it counts on a lane in UP of an up port on which a telegram or idle fill has been seen since the last
grant; with a lane UP the port trains at once. A telegram that was partly received then is counted as nothing, the model's choice (log 51). -/
def execTrainingRequestSeen (lane : Lane) (idleFillSeen : Bool) (s : State) : Host.Outcome State Fault Refusal :=
  run s (fun s =>
    if (s.portA.lane lane).isUp && s.portA.state.isUp && ((s.portA.lane lane).fillSeen || idleFillSeen) then trainPortA s else s)

/-- LANE_STATUS_REPORT (R140). -/
def execLaneStatusReport (lane0Up lane1Up : Bool) (s : State) : Host.Outcome State Fault Refusal :=
  run s (laneReport lane0Up lane1Up)

/-- RETURN_LANE_SILENCE (R140): both lanes are taken as DOWN. -/
def execReturnLaneSilence (s : State) : Host.Outcome State Fault Refusal := run s (laneReport false false)

/-- CREDIT_GRANT (R140, R152). -/
def execCreditGrant (haz sign mgmt ctl shared : Byte) (s : State) : Host.Outcome State Fault Refusal :=
  run s (takeGrant ⟨⟨haz.toNat, sign.toNat, mgmt.toNat, ctl.toNat⟩, shared.toNat⟩)

/-- CREDIT_RETURN (R152): ignored unless Port B is up, and above 255. -/
def execCreditReturn (kind : CreditKind) (s : State) : Host.Outcome State Fault Refusal :=
  run s (fun s =>
    if s.portB.state.isUp = true ∧ s.portB.credits.count kind < 255 then
      { s with portB := { s.portB with credits := s.portB.credits.put kind (s.portB.credits.count kind + 1) } }
    else s)

/-- ARBITER_TAKE (R155). -/
def execArbiterTake (s : State) : Host.Outcome State Fault Refusal := run s arbitrate

/-- TRANSMISSION_COMPLETE (R158): the transmitter becomes idle, and a forwarded telegram's slot is freed. -/
def execTransmissionComplete (s : State) : Host.Outcome State Fault Refusal :=
  run s (fun s =>
    match s.forward.tx with
    | none => s
    | some x =>
      let s1 := { s with forward := { s.forward with tx := none } }
      match x.slot with
      | some n => freeSlot n s1
      | none => s1)

/-- CREDIT_STALL_EXPIRY (R153, log 2): the episode opens and LOOP_DEGRADED is latched. -/
def execCreditStallExpiry (cls : TClass) (s : State) : Host.Outcome State Fault Refusal :=
  run s (fun s =>
    if (s.forward.stalls.get cls).timer = some 0 then
      latch .loopDegraded 4 { s with forward := { s.forward with stalls := s.forward.stalls.set cls ⟨none, true⟩ } }
    else s)

/-- What a counter adds for a pool sample of `n` occupied slots (R150, Table 9-5). -/
def poolAmount (n : Nat) (k : Counter) : Nat :=
  if k.event = eventCode .poolOccupancy then n
  else if k.event = eventCode .poolAbove ∧ k.threshold ≤ n then 1
  else 0

/-- POOL_SAMPLE (R150): what it adds is one occurrence, the model's choice (log 34). -/
def execPoolSample (s : State) : Host.Outcome State Fault Refusal :=
  run s (fun s => tally (poolAmount s.portA.pool.length) s)

/-- The classes that wait with no usable credit, whatever the port state (R153). -/
def creditWaiters (s : State) : List TClass := allClasses.filter (fun c => waits s c && !usable s c)

/-- Classes counted as CREDIT_WAIT, each its own occurrence (R153, R183). -/
def countWaits (cs : List TClass) (s : State) : State := cs.foldl (fun u c => count .creditWait (some c) u) s

/-- CREDIT_WAIT_SAMPLE (R153): the waiting classes are counted in the order of the class codes, the model's choice (log 34). -/
def execCreditWaitSample (s : State) : Host.Outcome State Fault Refusal :=
  run s (fun s => countWaits (creditWaiters s) s)

/-- BEAT_TIMER_EXPIRY (R159, log 2): a BEAT is placed and the timer restarts. -/
def execBeatTimerExpiry (s : State) : Host.Outcome State Fault Refusal :=
  run s (fun s => if s.cadence.timer = some 0 then startBeatTimer (placeBeat s) else s)

/-- The entry at a position of the round check list has run out of time. -/
def entryRanOut (entry : Nat) (s : State) : Bool := (s.cadence.round[entry]?).any (fun e => decide (e.timer = some 0))

/-- ROUND_LIMIT_EXPIRY (R160, R161, log 2). -/
def execRoundLimitExpiry (entry : Nat) (s : State) : Host.Outcome State Fault Refusal :=
  run s (fun s => if entryRanOut entry s then expireEntry entry s else s)

/-- The retired address has been held for its 2 s (R146). -/
def retiredRanOut (s : State) : Bool := s.node.retired.any (fun r => decide (r.timer = some 0))

/-- RETIRED_ADDRESS_DROP (R146, log 2). -/
def execRetiredAddressDrop (s : State) : Host.Outcome State Fault Refusal :=
  run s (fun s => if retiredRanOut s then { s with node := { s.node with retired := none } } else s)

end Sys2Proof.Machine
end

