-- ==== Sys2Proof/Machine/Requests.lean ====
section
/-! DEFINITION. The request handler (Chapter 8): how a request at the head of the queue is executed and answered, and the meanings of
UNKNOWN_KIND, STATUS_READ, ENTRY_READ and the placement of completion responses. -/

namespace Sys2Proof.Machine

/-! ### Executing the head entry -/

/-- The answer to a request: its status, the fields that follow it, and the state with the effect made. -/
structure Answer where
  status : Status
  fields : List Byte
  state : State
deriving DecidableEq, Repr

/-- A refusal without fields: no state changes (R166, R167). -/
def refuse (st : Status) (s : State) : Answer := ⟨st, [], s⟩

/-- OK without fields, with the effect made. -/
def done (s : State) : Answer := ⟨.ok, [], s⟩

/-- The handler may begin a request: the response slot is empty, no completion response is due, and no RESTART is under way (R165,
R174). -/
def handlerFree (s : State) : Bool :=
  s.requests.slot.isNone && s.requests.completionDue.isNone && !s.requests.restarting

/-- The entry at the head of the queue, where the handler may begin it and a row of the table executes it (R165, log 3). -/
def beginning (row : ReqRow) (s : State) : Option ReqEntry :=
  match s.requests.queue with
  | [] => none
  | e :: _ => if handlerFree s = true ∧ requestRow e.payload = row then some e else none

/-- The request kind as it came: 0 where the payload was empty (R166). -/
def kindByte (e : ReqEntry) : Byte := e.payload.headD 0

/-- The fields of a request after its kind. -/
def fieldsOf (e : ReqEntry) : List Byte := e.payload.drop 1

/-- The head entry leaves the queue. -/
def popHead (s : State) : State := { s with requests := { s.requests with queue := s.requests.queue.tail } }

/-- The end of an execution: the response is placed in its slot, or the entry leaves the queue where it was broadcast or the router is
unaddressed (R165, R166). -/
def finish (e : ReqEntry) (a : Answer) : State :=
  if e.broadcast || !addressed a.state then popHead a.state
  else { a.state with requests := { a.state.requests with
           slot := some ⟨e.requester, kindByte e :: byte (statusCode a.status) :: a.fields, false⟩ } }

/-- Execute the head entry by a body, where it belongs to a row (R165). -/
def request (row : ReqRow) (body : ReqEntry → State → Answer) (s : State) : State :=
  match beginning row s with
  | none => s
  | some e => finish e (body e s)

/-- A payload too short to hold the fields its kind requires is answered BAD_FIELD (R167). -/
def needing (n : Nat) (body : List Byte → State → Answer) (e : ReqEntry) (s : State) : Answer :=
  if (fieldsOf e).length < n then refuse .badField s else body (fieldsOf e) s

/-! ### STATUS_READ -/

/-- The store state, in the order R184 lists its values: IDLE 0, SAVING 1, LOADING 2. -/
def storeStateCode : StoreOp → Nat
  | .idle => 0 | .save => 1 | .startUpRead => 2 | .load => 2 | .layoutReload => 2

/-- STATUS_READ page 0 (Table 8-4, log 14). -/
def page0 (s : State) : List Byte :=
  num1 Config.partId ++ num1 Config.revision ++ num1 s.node.address ++ num1 ((s.node.retired.map (·.address)).getD 0) ++
    num4 s.uptime.toNat ++ num1 (modeCode s.mode.mode) ++ flag s.mode.startWait ++ flag s.mode.evacDemand ++ flag s.mode.frozen ++
    num1 (levelCode s.mode.evacLine.accepted) ++ num1 (levelCode s.mode.holdLine.accepted) ++ flag s.mode.fireWaiting ++
    (if s.mode.fireWaiting then flag s.mode.fireEvac ++ flag s.mode.lineCause else [255, 255]) ++
    num1 (layoutCode s.layout) ++ flag s.validation.failed ++ num1 s.validation.check ++ num1 s.validation.table ++
    num2 s.validation.index ++ num1 (storeStateCode s.store.op) ++ flag s.store.valid ++ num2 s.store.saveCount.toNat ++
    num2 (latchSet s)

/-- The summary fields of page 1. -/
def summaryFields (m : Summary) : List Byte :=
  num2 m.nTarget ++ num2 m.nSafe ++ num2 m.nLeastHarm ++ num2 m.nNone ++ num1 m.faceGaps ++ num1 m.rounds ++ num2 m.sweeps ++
    num1 m.restarts

/-- STATUS_READ page 1 (Table 8-4): it ends after the presence field where there is no committed solution (R171). -/
def page1 (s : State) : List Byte :=
  num1 (phaseCode s.solver.phase) ++ num2 s.solver.generation.toNat ++ flag s.solver.pending ++ num1 s.solver.restarts ++
    (match s.solver.committed with
     | none => flag false
     | some c => flag true ++ summaryFields c.summary)

/-- Credit counts in the order HAZ, SIGN, MGMT, CTL, shared. -/
def creditFields (c : Credits) : List Byte := num1 c.ded.haz ++ num1 c.ded.sign ++ num1 c.ded.mgmt ++ num1 c.ded.ctl ++ num1 c.shared

/-- A Port B lane: UP 0, DOWN 1, in the order R140 lists them. -/
def laneBCode (up : Bool) : Nat := if up then 0 else 1

/-- STATUS_READ page 2 (Table 8-4, log 14). -/
def page2 (s : State) : List Byte :=
  num1 (portStateCode s.portA.state) ++ num1 (portStateCode s.portB.state) ++ num1 (laneStateCode s.portA.lane0.state) ++
    num1 (laneStateCode s.portA.lane1.state) ++ num1 (laneBCode s.portB.lane0Up) ++ num1 (laneBCode s.portB.lane1Up) ++
    creditFields s.portA.outstanding ++ num1 s.portA.pool.length ++ creditFields s.portB.credits ++
    num1 (forwardQueue s).length ++ num1 s.requests.queue.length ++ flag s.cadence.loopOpen ++ num1 s.cadence.missCount ++
    num2 s.cadence.lateBeats ++ num2 s.node.discardedTakes

/-- The body of STATUS_READ (R171). -/
def statusReadBody (f : List Byte) (s : State) : Answer :=
  match at1 f 0 with
  | 0 => ⟨.ok, page0 s, s⟩
  | 1 => ⟨.ok, page1 s, s⟩
  | 2 => ⟨.ok, page2 s, s⟩
  | _ => refuse .badField s

/-! ### ENTRY_READ -/

/-- The tables and runtime tables of Table 8-5. -/
inductive TableName where
  | zone | detector | exit | parameter | layoutHeader | place | passage | sign | boundary
  | zoneRuntime | detectorRuntime | exitRuntime | signRuntime | boundaryRuntime | solution | solveExit
deriving DecidableEq, Repr

/-- The table of a code (Table 8-5). -/
def tableOfCode (n : Nat) : Option TableName :=
  match n with
  | 0 => some .zone | 1 => some .detector | 2 => some .exit | 3 => some .parameter | 4 => some .layoutHeader | 5 => some .place
  | 6 => some .passage | 7 => some .sign | 8 => some .boundary | 16 => some .zoneRuntime | 17 => some .detectorRuntime
  | 18 => some .exitRuntime | 19 => some .signRuntime | 20 => some .boundaryRuntime | 21 => some .solution | 22 => some .solveExit
  | _ => none

/-- The number of entries of a table; the ranges of SIGN_RUNTIME and SOLUTION are judged later (R172, check 2). -/
def tableRange : TableName → Option Nat
  | .zone => some Config.zoneCount | .detector => some Config.detectorCount | .exit => some Config.exitCount
  | .parameter => some 26 | .layoutHeader => some 1 | .place => some Config.placeCapacity | .passage => some Config.passageCapacity
  | .sign => some Config.signCapacity | .boundary => some Config.boundaryCount | .zoneRuntime => some Config.zoneCount
  | .detectorRuntime => some Config.detectorCount | .exitRuntime => some Config.exitCount | .signRuntime => none
  | .boundaryRuntime => some Config.boundaryCount | .solution => none | .solveExit => some Config.exitCount

/-- A zone runtime record (R53). -/
def zoneRtBytes (s : State) (z : Nat) : List Byte :=
  let r := zoneRt s z
  flag r.smoke ++ flag r.dense ++ flag r.isolate ++ flag r.stale ++ timer2 r.watch ++ num2 r.preCount ++ num2 (alarmWeight s z) ++
    num2 (faultedCount s z) ++ num2 (detectorsOf s z).length ++ num1 (zoneStateCode r.derived)

/-- A detector runtime record (R53). -/
def detectorRtBytes (r : DetectorRt) : List Byte :=
  num1 (conditionCode r.last) ++ flag r.heard ++ flag r.silent ++ flag r.fault ++ timer2 r.silence ++ num1 r.ignored

/-- An exit runtime record (R53): panel state OPEN 0, CLOSED 1. -/
def exitRtBytes (r : ExitRt) : List Byte := flag r.closed ++ num2 r.bias ++ num1 (usabilityCode r.usability)

/-- A presentation with its basis and tier, every byte 255 where it is absent (R107, log 29). -/
def presentationBytes (o : Option Presentation) : List Byte :=
  match o with
  | none => List.replicate 7 255
  | some p =>
    num1 p.face ++ num1 (signModeCode p.mode) ++ num1 p.phase ++ num1 p.brightness ++ num1 p.tone ++ num1 (basisCode p.basis) ++
      num1 (tierCode p.tier)

/-- Queue membership: none 0, forced 1, ordinary 2, in the order of Table 4-2. -/
def membershipCode (s : State) (i : Nat) : Nat := if i ∈ s.signs.forced then 1 else if i ∈ s.signs.ordinary then 2 else 0

/-- A sign runtime record (R107). -/
def signRtBytes (s : State) (i : Nat) : List Byte :=
  let r := signRt s i
  presentationBytes r.desired ++ presentationBytes r.commanded ++
    (match r.confirmed with
     | none => [255, 255]
     | some (f, m) => [f, m]) ++
    num1 (signStateCode r.state) ++ timer2 r.hold ++ flag r.held ++ timer1 r.confirm ++ num1 r.noReply ++ num1 r.mismatch ++
    flag r.lampFault ++ num1 (membershipCode s i)

/-- An advert of a boundary runtime record, 65535 and 255 where it is absent (R120). -/
def advertBytes (o : Option Advert) : List Byte :=
  match o with
  | none => num2 65535 ++ num1 255
  | some a => num2 a.cost ++ num1 (advertTierCode a.tier)

/-- A boundary runtime record (R120). -/
def boundaryRtBytes (r : BoundaryRt) : List Byte :=
  num1 (boundaryStateCode r.state) ++ num2 r.heardCost ++ num1 (advertTierCode r.heardTier) ++ timer2 r.age ++
    advertBytes r.computed ++ advertBytes r.last ++ flag r.due

/-- The target of a solution record with its kind: EXIT 0, BOUNDARY 1, both 255 where it is absent (R68). -/
def targetBytes (o : Option Target) : List Byte :=
  match o with
  | none => [255, 255]
  | some (.exit e) => num1 e ++ num1 0
  | some (.boundary b) => num1 b ++ num1 1

/-- A solution record with the generation it belongs to (R80, Table 3-5). -/
def solutionBytes (r : SolRec) (generation : Nat) : List Byte :=
  num2 r.cost ++ num1 (tierCode r.tier) ++ num2 ((r.next.map wayNumber).getD 65535) ++ targetBytes r.target ++ num2 generation

/-- The tier of an exit as a target, in the order R80 lists them: tier 1, tier 2, none. -/
def exitTierCode (n : Nat) : Nat := if n = 1 then 0 else if n = 2 then 1 else 2

/-- A SOLVE_EXIT record (R80). -/
def solveExitBytes (x : SolveExit) : List Byte := num2 x.catchment ++ num2 x.bias ++ num1 (exitTierCode x.tier)

/-- The entry read from a table at an index, or the refusal of checks 3 and 4 (R172). -/
def readEntry (s : State) (t : TableName) (i : Nat) : Except Status (List Byte) :=
  match t with
  | .zone => .ok (zoneEntryBytes (zoneEntry s i))
  | .detector => .ok (detectorEntryBytes (detectorEntry s i))
  | .exit => .ok (exitEntryBytes (exitEntry s i))
  | .parameter => .ok (num2 (paramGet s.tables.params i))
  | .layoutHeader => .ok (headerBytes s.tables.layout.header)
  | .place => .ok (placeEntryBytes (placeOf s.tables.layout i))
  | .passage => .ok (passageEntryBytes (passageOf s.tables.layout i))
  | .sign => .ok (signEntryBytes (signOf s.tables.layout i))
  | .boundary => .ok (boundaryEntryBytes (boundaryOf s.tables.layout i))
  | .zoneRuntime => .ok (zoneRtBytes s i)
  | .detectorRuntime => .ok (detectorRtBytes (detectorRt s i))
  | .exitRuntime => .ok (exitRtBytes (exitRt s i))
  | .signRuntime =>
    if s.layout ≠ .active then .error .empty
    else if signsInUse s ≤ i then .error .badIndex
    else .ok (signRtBytes s i)
  | .boundaryRuntime => if s.layout ≠ .active then .error .empty else .ok (boundaryRtBytes (boundaryRt s i))
  | .solution =>
    (match s.solver.committed with
     | none => .error .empty
     | some c =>
       match c.records[i]? with
       | none => .error .badIndex
       | some r => .ok (solutionBytes r s.solver.generation.toNat))
  | .solveExit =>
    (match s.solver.committed with
     | none => .error .empty
     | some c => .ok (solveExitBytes (c.exits.getD i ⟨0, 0, 0⟩)))

/-- The index is beyond the range of the table (R172, check 2). -/
def beyondRange (t : TableName) (i : Nat) : Bool :=
  match tableRange t with
  | none => false
  | some n => decide (n ≤ i)

/-- The body of ENTRY_READ (R172). -/
def entryReadBody (f : List Byte) (s : State) : Answer :=
  match tableOfCode (at1 f 0) with
  | none => refuse .badTable s
  | some t =>
    if beyondRange t (at2 f 1) then refuse .badIndex s
    else
      match readEntry s t (at2 f 1) with
      | .error e => refuse e s
      | .ok bs => ⟨.ok, f.take 3 ++ bs, s⟩

/-! ### Meanings -/

/-- UNKNOWN_KIND (R167). -/
def execUnknownKind (s : State) : Host.Outcome State Fault Refusal := run s (request .unknownKind (fun _ => refuse .unknownKind))

/-- STATUS_READ (R171). -/
def execStatusRead (s : State) : Host.Outcome State Fault Refusal := run s (request .statusRead (needing 1 statusReadBody))

/-- ENTRY_READ (R172). -/
def execEntryRead (s : State) : Host.Outcome State Fault Refusal := run s (request .entryRead (needing 3 entryReadBody))

/-- COMPLETION_RESPONSE_PLACEMENT (R169): the due completion response is placed once the slot is empty; it is discarded while the router
is unaddressed. -/
def execCompletionResponsePlacement (s : State) : Host.Outcome State Fault Refusal :=
  run s (fun s =>
    match s.requests.completionDue, s.requests.slot with
    | some r, none =>
      { s with requests := { s.requests with completionDue := none, slot := if addressed s then some r else none } }
    | _, _ => s)

end Sys2Proof.Machine
end

