-- ==== Sys2Proof/Machine/Management.lean ====
section
/-! DEFINITION. The requests of the layout lifecycle, the modes, the zones and exits, the solver, captures, notices, counters, the store
and the address (Table 8-2), and the meanings of their rows. -/

namespace Sys2Proof.Machine

/-! ### Layout requests -/

/-- LAYOUT_OPEN (R20). -/
def layoutOpenBody (s : State) : Answer :=
  if tablesBusy s then refuse .busy s
  else if s.layout = .editing then refuse .sequence s
  else if s.mode.mode ≠ .maint then refuse .wrongMode s
  else done { withdraw s with layout := .editing }

/-- The request handler records the operation and its requester (R169). -/
def recordOperation (e : ReqEntry) (s : State) : State :=
  { s with requests := { s.requests with operation := some ⟨kindByte e, e.requester⟩ } }

/-- LAYOUT_CLOSE (R21). -/
def layoutCloseBody (e : ReqEntry) (s : State) : Answer :=
  if tablesBusy s then refuse .busy s
  else if s.layout ≠ .editing then refuse .sequence s
  else ⟨.accepted, [], recordOperation e { s with layout := .validating }⟩

/-- LAYOUT_DISCARD (R24). -/
def layoutDiscardBody (e : ReqEntry) (s : State) : Answer :=
  if tablesBusy s then refuse .busy s
  else if s.layout ≠ .editing then refuse .sequence s
  else ⟨.accepted, [], recordOperation e (startReload s)⟩

/-! ### Mode requests -/

/-- An answer to MODE_SET or EVAC_CANCEL carries the mode after the request as its last field (R125, R126, R166, log 15). -/
def withMode (a : Answer) : Answer := { a with fields := a.fields ++ num1 (modeCode a.state.mode.mode) }

/-- MODE_SET with target EVAC (R125, checks 2 and 4). -/
def modeSetEvacBody (s : State) : Answer :=
  if s.mode.startWait then done { s with mode := { s.mode with heldEvac := true } }
  else done (evacCause false s)

/-- ALERT or EVAC, which MODE_SET does not leave (R125, check 6). -/
def Mode.inAlarm (m : Mode) : Bool := decide (m = .alert) || decide (m = .evac)

/-- MODE_SET with target QUIET, STANDBY or MAINT (R125, Table 6-4). -/
def modeSetBody (target : Mode) (s : State) : Answer :=
  if s.mode.startWait then refuse .busy s
  else if s.mode.mode = target then done s
  else if s.mode.mode.inAlarm then refuse .wrongMode s
  else if s.mode.mode = .maint ∧ s.layout ≠ .active then refuse .noLayout s
  else if target ≠ .maint ∧ hazardPresent s = true then refuse .hazardPresent s
  else done (changeMode target false s)

/-- EVAC_CANCEL (R126): reason LINE 0, DENSE 1. -/
def evacCancelBody (s : State) : Answer :=
  if s.mode.startWait then refuse .busy s
  else if s.mode.mode ≠ .evac then refuse .wrongMode s
  else if s.mode.evacDemand then ⟨.hazardPresent, [0], s⟩
  else if anyDense s then ⟨.hazardPresent, [1], s⟩
  else done (changeMode (if hazardPresent s then .alert else .standby) false s)

/-! ### Zone and exit requests -/

/-- A request that names a zone as its first field (R41). -/
def zoneBody (effect : Nat → State → State) (f : List Byte) (s : State) : Answer :=
  if Config.zoneCount ≤ at1 f 0 then refuse .badIndex s else done (effect (at1 f 0) s)

/-- The exit's panel state changes from OPEN to CLOSED, the exit being defined (R47). -/
def exitEscalates (s : State) (e : Nat) (closed : Bool) : Bool := (exitEntry s e).defined && !(exitRt s e).closed && closed

/-- The effect of an accepted EXIT_SET (R46, R47). -/
def setExit (e : Nat) (closed : Bool) (bias : Nat) (s : State) : State :=
  let s1 := refreshUsability (setExitRt s e { exitRt s e with closed := closed, bias := bias }) e
  if (exitRt s e).closed = closed ∧ (exitRt s e).bias = bias then s1
  else solveTrigger (exitEscalates s e closed) s1

/-- EXIT_SET (R46). -/
def exitSetBody (f : List Byte) (s : State) : Answer :=
  if Config.exitCount ≤ at1 f 0 then refuse .badIndex s
  else if 1 < at1 f 1 ∨ 5000 < at2 f 2 then refuse .badField s
  else done (setExit (at1 f 0) (decide (at1 f 1 = 1)) (at2 f 2) s)

/-! ### SOLVE_NOW -/

/-- SOLVE_NOW (R59): STARTED 0, PENDING 1. -/
def solveNowBody (s : State) : Answer :=
  if layoutBusy s then refuse .busy s
  else if s.layout ≠ .active then refuse .noLayout s
  else ⟨.ok, [if s.solver.phase = .idle then 0 else 1], solveTrigger false s⟩

/-! ### Captures -/

/-- CAPTURE_TAKE (R180): the slot filled, or 255 where the capture is lost. -/
def captureTakeBody (s : State) : Answer := ⟨.ok, opt1 (emptySlot s.captures.filled), capture .request s⟩

/-- Pack codes of `w` bits, most significant bit first, into `n` bytes (R181). -/
def packCodes (w n : Nat) (codes : List Nat) : List Byte :=
  let v := codes.foldl (fun acc c => acc * 2 ^ w + c) 0
  (List.range n).map (fun i => byte (v / 256 ^ (n - 1 - i)))

/-- CAPTURE_READ part 0 of a filled slot (Table 9-2). -/
def part0Fields (x : FilledSlot) (s : State) : List Byte :=
  num1 0 ++ num1 x.slot ++ num1 (triggerCode x.capture.trigger) ++ num4 x.capture.uptime.toNat ++ num1 (modeCode x.capture.mode) ++
    num2 x.capture.generation.toNat ++ flag x.capture.present ++ flag s.captures.overflow ++ num1 s.captures.filled.length ++
    flag s.captures.lockClosed

/-- CAPTURE_READ part 1 (Table 9-3). -/
def part1Fields (x : Capture) : List Byte := num1 1 ++ packCodes 3 24 (x.zones.map zoneStateCode)

/-- CAPTURE_READ part 2 (Table 9-4). -/
def part2Fields (x : Capture) : List Byte :=
  num1 2 ++ packCodes 2 8 (x.exits.map usabilityCode) ++ num2 x.nTarget ++ num2 x.nSafe ++ num2 x.nLeastHarm ++ num2 x.nNone ++
    num1 x.nHeld ++ num1 x.nFaulted

/-- CAPTURE_READ part 0 (R181): the older filled slot is selected, and the overflow latch, reported, clears. -/
def captureRead0Body (_f : List Byte) (s : State) : Answer :=
  match s.captures.filled with
  | [] => refuse .empty s
  | x :: _ =>
    ⟨.ok, part0Fields x s, { s with captures := { s.captures with progress := .part0, reading := x.slot, overflow := false } }⟩

/-- The capture of the slot being read. -/
def readingCapture (s : State) : Option Capture :=
  (s.captures.filled.find? (fun x => decide (x.slot = s.captures.reading))).map (·.capture)

/-- CAPTURE_READ part 1 (R181). -/
def captureRead1Body (_f : List Byte) (s : State) : Answer :=
  if s.captures.filled.isEmpty then refuse .empty s
  else if s.captures.progress ≠ .part0 then refuse .sequence s
  else
    match readingCapture s with
    | none => refuse .sequence s
    | some c => ⟨.ok, part1Fields c, { s with captures := { s.captures with progress := .part1 } }⟩

/-- CAPTURE_READ part 2 (R181): the slot being read becomes empty. -/
def captureRead2Body (_f : List Byte) (s : State) : Answer :=
  if s.captures.filled.isEmpty then refuse .empty s
  else if s.captures.progress ≠ .part1 then refuse .sequence s
  else
    match readingCapture s with
    | none => refuse .sequence s
    | some c =>
      ⟨.ok, part2Fields c, { s with captures := { s.captures with
        progress := .none, filled := s.captures.filled.filter (fun x => decide (x.slot ≠ s.captures.reading)) } }⟩

/-! ### Notices -/

/-- Bit n - 1 of a set of causes (R178). -/
def inSet (set n : Nat) : Bool := decide (set / 2 ^ (n - 1) % 2 = 1)

/-- The bits 13 to 15 of a set are clear (R178). -/
def setValid (set : Nat) : Bool := decide (set < 8192)

/-- Rewrite the thirteen causes, cause `n` by `f n`. -/
def updateCauses (f : Nat → CauseRec → CauseRec) (s : State) : State :=
  { s with notices := { s.notices with
      causes := Tab.updateAll CauseRec.reset 14 (fun n r => if n = 0 then r else f n r) s.notices.causes } }

/-- The effect of NOTICE_SET (R178). -/
def setEnables (master : Bool) (set : Nat) (s : State) : State :=
  let s1 := updateCauses (fun n r => { r with enabled := inSet set n }) s
  { s1 with notices := { s1.notices with master := master } }

/-- NOTICE_SET (R178). -/
def noticeSetBody (f : List Byte) (s : State) : Answer :=
  if 1 < at1 f 0 ∨ setValid (at2 f 1) = false then refuse .badField s
  else done (setEnables (decide (at1 f 0 = 1)) (at2 f 1) s)

/-- NOTICE_CLEAR (R178). -/
def noticeClearBody (f : List Byte) (s : State) : Answer :=
  if setValid (at2 f 0) = false then refuse .badField s
  else done (updateCauses (fun n r => if inSet (at2 f 0) n then { r with latched := false } else r) s)

/-! ### Counters -/

/-- COUNTER_SET (R182). -/
def counterSetBody (f : List Byte) (s : State) : Answer :=
  if 3 < at1 f 0 then refuse .badIndex s
  else if 17 < at1 f 1 ∨ 15 < at1 f 2 ∨ 16 < at1 f 3 ∨ 1 < at1 f 4 then refuse .badField s
  else done (setCounter s (at1 f 0) ⟨0, false, at1 f 1, BitVec.ofNat 4 (at1 f 2), at1 f 3, decide (at1 f 4 = 1)⟩)

/-- The overflow flags as one byte, bit n for counter n (R183). -/
def overflowByte (s : State) : Nat :=
  ([0, 1, 2, 3].map (fun i => if (counterAt s i).overflow then 2 ^ i else 0)).foldl (· + ·) 0

/-- COUNTER_READ (R183). -/
def counterReadBody (s : State) : Answer :=
  ⟨.ok, [0, 1, 2, 3].flatMap (fun i => num4 (counterAt s i).value.toNat) ++ [0, 1, 2, 3].flatMap (fun i => num1 (counterAt s i).event) ++
    num1 (overflowByte s) ++ flag s.counters.frozen, s⟩

/-- Set or clear the frozen flag (R183). -/
def setFrozen (b : Bool) (s : State) : State := { s with counters := { s.counters with frozen := b } }

/-- Rewrite the four counters. -/
def updateCounters (f : Counter → Counter) (s : State) : State :=
  { s with counters := { s.counters with table := Tab.updateAll Counter.reset 4 (fun _ k => f k) s.counters.table } }

/-! ### The store -/

/-- STORE_SAVE (R185): the marker is erased as the save begins. -/
def storeSaveBody (s : State) : Answer :=
  if tablesBusy s then refuse .busy s
  else if s.layout ≠ .active then refuse .noLayout s
  else ⟨.accepted, [], { s with store := { s.store with op := .save, marker := false, valid := false } }⟩

/-- The layout as STORE_LOAD leaves it at acceptance: from ACTIVE the committed solution is withdrawn (R24, R187). -/
def beginLoad (s : State) : State :=
  let s1 := if s.layout = .active then withdraw s else s
  { s1 with layout := .reloading, store := { s1.store with op := .load } }

/-- STORE_LOAD (R187). -/
def storeLoadBody (s : State) : Answer :=
  if tablesBusy s then refuse .busy s
  else if s.mode.mode ≠ .maint then refuse .wrongMode s
  else if anyLatched s then refuse .hazardLatched s
  else if s.store.valid = false then refuse .noLayout s
  else ⟨.accepted, [], beginLoad s⟩

/-! ### The address -/

/-- The response slot is emptied with what it holds; the entry of a discarded response leaves the queue (R146, R166). -/
def dropResponse (s : State) : State :=
  match s.requests.slot with
  | none => s
  | some r => responseTaken r s

/-- What the router drops as it becomes unaddressed (R146, R119). -/
def dropOwn (s : State) : State :=
  let s1 := dropResponse (clearDue s)
  { s1 with signs := { s1.signs with defaultSlot := false }, forward := { s1.forward with resend := none } }

/-- The address held becomes the retired address for 2 s (R146). -/
def retire (old : Nat) : Option Retired := if old = 0 then none else some ⟨old, millis Config.retiredMs⟩

/-- A change of the address (R146). -/
def changeAddress (new : Nat) (s : State) : State :=
  let s1 := if new = 0 then dropOwn s else s
  { s1 with cadence := { s1.cadence with round := [] }, node := { s1.node with address := new, retired := retire s1.node.address } }

/-- ADDRESS_TAKE (R146): the straps are read; an address equal to the one held changes nothing. -/
def addressTakeBody (straps : Byte) (s : State) : Answer :=
  let s1 := { s with node := { s.node with straps := straps } }
  let a := strapAddress straps
  ⟨.ok, num1 a, if a = s.node.address then s1 else changeAddress a s1⟩

/-! ### Meanings -/

/-- A body for a kind without fields. -/
def plain (body : State → Answer) (_e : ReqEntry) (s : State) : Answer := body s

/-- LAYOUT_OPEN (R20). -/
def execLayoutOpen (s : State) : Host.Outcome State Fault Refusal := run s (request .layoutOpen (plain layoutOpenBody))
/-- LAYOUT_CLOSE (R21). -/
def execLayoutClose (s : State) : Host.Outcome State Fault Refusal := run s (request .layoutClose layoutCloseBody)
/-- LAYOUT_DISCARD (R24). -/
def execLayoutDiscard (s : State) : Host.Outcome State Fault Refusal := run s (request .layoutDiscard layoutDiscardBody)
/-- MODE_SET with target QUIET (R125). -/
def execModeSetQuiet (s : State) : Host.Outcome State Fault Refusal :=
  run s (request .modeSetQuiet (plain (fun s => withMode (modeSetBody .quiet s))))
/-- MODE_SET with target STANDBY (R125). -/
def execModeSetStandby (s : State) : Host.Outcome State Fault Refusal :=
  run s (request .modeSetStandby (plain (fun s => withMode (modeSetBody .standby s))))
/-- MODE_SET with target MAINT (R125). -/
def execModeSetMaint (s : State) : Host.Outcome State Fault Refusal :=
  run s (request .modeSetMaint (plain (fun s => withMode (modeSetBody .maint s))))
/-- MODE_SET with target EVAC (R125). -/
def execModeSetEvac (s : State) : Host.Outcome State Fault Refusal :=
  run s (request .modeSetEvac (plain (fun s => withMode (modeSetEvacBody s))))
/-- MODE_SET with no valid target (R125, check 1). -/
def execModeSetBadTarget (s : State) : Host.Outcome State Fault Refusal :=
  run s (request .modeSetBadTarget (plain (fun s => withMode (refuse .badField s))))
/-- EVAC_CANCEL (R126). -/
def execEvacCancel (s : State) : Host.Outcome State Fault Refusal :=
  run s (request .evacCancel (plain (fun s => withMode (evacCancelBody s))))
/-- ZONE_RESET (R41, R42). -/
def execZoneReset (s : State) : Host.Outcome State Fault Refusal := run s (request .zoneReset (needing 1 (zoneBody resetZone)))
/-- ZONE_ISOLATE with setting on (R41, R43). -/
def execZoneIsolateOn (s : State) : Host.Outcome State Fault Refusal :=
  run s (request .zoneIsolateOn (needing 2 (zoneBody (fun z => isolateZone z true))))
/-- ZONE_ISOLATE with setting off (R41, R43). -/
def execZoneIsolateOff (s : State) : Host.Outcome State Fault Refusal :=
  run s (request .zoneIsolateOff (needing 2 (zoneBody (fun z => isolateZone z false))))
/-- ZONE_ISOLATE with a setting that is neither on nor off (R41): BAD_INDEX is checked first. -/
def execZoneIsolateBadSetting (s : State) : Host.Outcome State Fault Refusal :=
  run s (request .zoneIsolateBadSetting (needing 2 (fun f s =>
    if Config.zoneCount ≤ at1 f 0 then refuse .badIndex s else refuse .badField s)))
/-- ZONE_CONFIRM (R41, R44). -/
def execZoneConfirm (s : State) : Host.Outcome State Fault Refusal := run s (request .zoneConfirm (needing 1 (zoneBody confirmZone)))
/-- EXIT_SET (R46, R47). -/
def execExitSet (s : State) : Host.Outcome State Fault Refusal := run s (request .exitSet (needing 4 exitSetBody))
/-- SOLVE_NOW (R59). -/
def execSolveNow (s : State) : Host.Outcome State Fault Refusal := run s (request .solveNow (plain solveNowBody))
/-- CAPTURE_TAKE (R180). -/
def execCaptureTake (s : State) : Host.Outcome State Fault Refusal := run s (request .captureTake (plain captureTakeBody))
/-- CAPTURE_READ part 0 (R181). -/
def execCaptureReadPart0 (s : State) : Host.Outcome State Fault Refusal :=
  run s (request .captureReadPart0 (needing 1 captureRead0Body))
/-- CAPTURE_READ part 1 (R181). -/
def execCaptureReadPart1 (s : State) : Host.Outcome State Fault Refusal :=
  run s (request .captureReadPart1 (needing 1 captureRead1Body))
/-- CAPTURE_READ part 2 (R181). -/
def execCaptureReadPart2 (s : State) : Host.Outcome State Fault Refusal :=
  run s (request .captureReadPart2 (needing 1 captureRead2Body))
/-- CAPTURE_READ of a part above 2 (R181). -/
def execCaptureReadBadPart (s : State) : Host.Outcome State Fault Refusal :=
  run s (request .captureReadBadPart (plain (refuse .badField)))
/-- INCIDENT_RELEASE (R179). -/
def execIncidentRelease (s : State) : Host.Outcome State Fault Refusal :=
  run s (request .incidentRelease (plain (fun s => done { s with captures := { s.captures with lockClosed := false } })))
/-- NOTICE_SET (R178). -/
def execNoticeSet (s : State) : Host.Outcome State Fault Refusal := run s (request .noticeSet (needing 3 noticeSetBody))
/-- NOTICE_CLEAR (R178). -/
def execNoticeClear (s : State) : Host.Outcome State Fault Refusal := run s (request .noticeClear (needing 2 noticeClearBody))
/-- COUNTER_SET (R182). -/
def execCounterSet (s : State) : Host.Outcome State Fault Refusal := run s (request .counterSet (needing 5 counterSetBody))
/-- COUNTER_READ (R183). -/
def execCounterRead (s : State) : Host.Outcome State Fault Refusal := run s (request .counterRead (plain counterReadBody))
/-- COUNTER_CONTROL action FREEZE (R183). -/
def execFreeze (s : State) : Host.Outcome State Fault Refusal := run s (request .freeze (plain (fun s => done (setFrozen true s))))
/-- COUNTER_CONTROL action UNFREEZE (R183). -/
def execUnfreeze (s : State) : Host.Outcome State Fault Refusal := run s (request .unfreeze (plain (fun s => done (setFrozen false s))))
/-- COUNTER_CONTROL action ZERO_ALL (R183). -/
def execZeroAll (s : State) : Host.Outcome State Fault Refusal :=
  run s (request .zeroAll (plain (fun s => done (updateCounters (fun k => { k with value := 0 }) s))))
/-- COUNTER_CONTROL action CLEAR_OVERFLOW (R183). -/
def execClearOverflow (s : State) : Host.Outcome State Fault Refusal :=
  run s (request .clearOverflow (plain (fun s => done (updateCounters (fun k => { k with overflow := false }) s))))
/-- COUNTER_CONTROL with an action above 3 (R183). -/
def execCounterControlBadAction (s : State) : Host.Outcome State Fault Refusal :=
  run s (request .counterControlBadAction (plain (refuse .badField)))
/-- STORE_SAVE (R185). -/
def execStoreSave (s : State) : Host.Outcome State Fault Refusal := run s (request .storeSave (plain storeSaveBody))
/-- STORE_LOAD (R187). -/
def execStoreLoad (s : State) : Host.Outcome State Fault Refusal := run s (request .storeLoad (plain storeLoadBody))
/-- ADDRESS_TAKE (R146). -/
def execAddressTake (straps : Byte) (s : State) : Host.Outcome State Fault Refusal :=
  run s (request .addressTake (plain (addressTakeBody straps)))

end Sys2Proof.Machine
end

