-- ==== Sys2Proof/Machine/Resets.lean ====
section
/-! DEFINITION. Resets and start-up (R188 to R190, R134, R174) and the uptime clock: POWER, PIN, START_UP, the end of the start-up read,
RESTART and its completion, and the meanings of their rows. -/

namespace Sys2Proof.Machine

/-! ### POWER and PIN -/

/-- The router at its POWER or PIN reset values, with STARTED latched with the detail of the reset kind (R189, Table 9-1). What the
resets do not reach is kept: the pins, the stored image with its marker and save count, and the model's own fields (logs 1, 7, 23). -/
def resetTo (detail : Nat) (s : State) : State :=
  { State.reset with
    pending := s.pending
    draws := s.draws
    store := { s.store with op := .startUpRead, valid := false }
    mode := ModeCtl.reset s.mode.evacLine.raw s.mode.holdLine.raw
    portA := PortA.reset s.portA.returns
    node := ⟨s.node.straps, 0, none, 0⟩
    notices := ⟨[(13, ⟨true, false, detail⟩)], false, none⟩ }

/-- POWER_RESET (R189). -/
def execPowerReset (s : State) : Host.Outcome State Fault Refusal := .next (resetTo 0 s)

/-- PIN_RESET (R189). -/
def execPinReset (s : State) : Host.Outcome State Fault Refusal := .next (resetTo 1 s)

/-! ### Start-up -/

/-- START_UP (R188, R145): the address is read from the straps and the blocks are released; the ports train and the start-up read
runs. -/
def execStartUp (straps : Byte) (s : State) : Host.Outcome State Fault Refusal :=
  .next (if s.inReset then
      settle s { s with inReset := false, node := { s.node with straps := straps, address := strapAddress straps } }
    else s)

/-- The mode of the start mode parameter: 0 QUIET, 1 STANDBY (Table 1-5). -/
def startModeOf (p : Params) : Mode := if p.startMode = 0 then .quiet else .standby

/-- The start wait ends (R134). -/
def endStartWait (m : Mode) (s : State) : State := { s with mode := { s.mode with mode := m, startWait := false } }

/-- Step 1 at the end of the start wait: a held EVAC is taken as an accepted MODE_SET EVAC and cleared (R134). -/
def takeHeldEvac (s : State) : State :=
  if s.mode.heldEvac then
    let s1 := evacCause false s
    { s1 with mode := { s1.mode with heldEvac := false } }
  else s

/-- Step 3 at the end of the start wait, for one zone (R134). -/
def takeZoneState (s : State) (z : Nat) : State :=
  match zoneState s z with
  | .dense => escalationAtMode .dense s
  | .smoke => escalationAtMode .smoke s
  | .watch => changeAtMode z .watch s
  | .isolated => s
  | .stale => s
  | .clear => s

/-- The held and present causes in the order of R134: held EVAC, EVAC_IN, the zone states in ascending index (log 12), HOLD_IN. -/
def takeStartCauses (s : State) : State :=
  lookAt .holdIn ((List.range Config.zoneCount).foldl takeZoneState (lookAt .evacIn (takeHeldEvac s)))

/-- The tables as the start-up read leaves them: a valid image is loaded and activated (R188). -/
def startUpTables (valid : Bool) (s : State) : State :=
  if valid then activate (takeImage (storeIdle true s)) else storeIdle false s

/-- START_UP_READ_END (R188, R134, R179). -/
def execStartUpReadEnd (checkOk : Bool) (s : State) : Host.Outcome State Fault Refusal :=
  run s (fun s =>
    if s.store.op = .startUpRead then
      let valid := imageValid s.store checkOk
      let s1 := startUpTables valid s
      takeStartCauses (startCaptureTimer (endStartWait (if valid then startModeOf s1.tables.params else .maint) s1))
    else s)

/-! ### RESTART -/

/-- The solver restarts from TAKE where the layout is ACTIVE (R54). -/
def solverRestart (s : State) : State :=
  let s1 := { s with solver := { Solver.reset with generation := s.solver.generation } }
  if s1.layout = .active then startSolve s1 else s1

/-- The boundary exchange at RESTART (R108, R109). -/
def boundariesRestart (s : State) : State :=
  { s with boundaries := ⟨[], if s.layout = .active then seconds s.tables.params.advertPeriod else none⟩ }

/-- The loop blocks at RESTART (Table 7-7); Port A leaving the up states stops the silence timers (R51). -/
def loopRestart (s : State) : State :=
  stopSilence { s with portA := PortA.reset s.portA.returns, portB := PortB.reset, forward := Forward.reset, cadence := Cadence.reset,
                       node := { s.node with retired := none, discardedTakes := 0 } }

/-- The notice unit at RESTART: every latch cleared, STARTED latched with detail 2; enables and details kept (R176, log 32). -/
def noticesRestart (s : State) : State :=
  latch .started 2 (updateCauses (fun _ r => { r with latched := false }) { s with notices := { s.notices with spacing := none } })

/-- Every block takes its RESTART values, the RESTART entry staying at the head of the queue (R174, R189). -/
def restartRouter (e : ReqEntry) (s : State) : State :=
  let s1 := noticesRestart (solverRestart (boundariesRestart (signsRestart (loopRestart s))))
  { s1 with counters := ⟨[], false⟩
            requests := { s1.requests with queue := [e], slot := none, completionDue := none, operation := none, restarting := true } }

/-- RESTART (R174). -/
def execRestart (s : State) : Host.Outcome State Fault Refusal :=
  run s (fun s =>
    match beginning .restart s with
    | none => s
    | some e => if tablesBusy s then finish e (refuse .busy s) else restartRouter e s)

/-- RESTART_COMPLETE (R174): the OK response is placed in the response origin slot. -/
def execRestartComplete (s : State) : Host.Outcome State Fault Refusal :=
  run s (fun s =>
    if s.requests.restarting then
      (match s.requests.queue with
       | [] => { s with requests := { s.requests with restarting := false } }
       | e :: _ => finish e (done { s with requests := { s.requests with restarting := false } }))
    else s)

/-! ### The uptime clock -/

/-- UPTIME_TICK (R190). -/
def execUptimeTick (s : State) : Host.Outcome State Fault Refusal := run s (fun s => { s with uptime := s.uptime + 1 })

end Sys2Proof.Machine
end

