-- ==== Sys2Proof/Machine/Writes.lean ====
section
/-! DEFINITION. ENTRY_WRITE (R6 to R18, R173): the checks in their order, the effects, and the meanings of its rows. -/

namespace Sys2Proof.Machine

/-! ### The checks common to writes -/

/-- The entry part of the fields of an ENTRY_WRITE. -/
def entryPart (f : List Byte) : List Byte := f.drop 3

/-- The index of an ENTRY_WRITE. -/
def entryIndex (f : List Byte) : Nat := at2 f 1

/-- An accepted write: OK with table and index (Table 8-2). -/
def written (f : List Byte) (s : State) : Answer := ⟨.ok, f.take 3, s⟩

/-- A write to an installation table or the parameter set: BAD_INDEX, BUSY, WRONG_MODE, BAD_FIELD, HAZARD_LATCHED, in this order (R6).
`parse` gives the entry where its fields and the table's rules hold; `latched` says that it touches a latched zone. -/
def installationWrite {α : Type} (entries : Nat) (parse : State → Nat → List Byte → Option α) (latched : State → Nat → α → Bool)
    (effect : Nat → α → State → State) (f : List Byte) (s : State) : Answer :=
  if entries ≤ entryIndex f then refuse .badIndex s
  else if tablesBusy s then refuse .busy s
  else if s.mode.mode ≠ .maint then refuse .wrongMode s
  else
    match parse s (entryIndex f) (entryPart f) with
    | none => refuse .badField s
    | some a => if latched s (entryIndex f) a then refuse .hazardLatched s else written f (effect (entryIndex f) a s)

/-- A write to a layout table: BAD_INDEX, BUSY, SEQUENCE, BAD_FIELD, in this order; it stores the entry and nothing else (R18). -/
def layoutWrite {α : Type} (entries : Nat) (parse : List Byte → Option α) (store : Nat → α → LayoutTables → LayoutTables)
    (f : List Byte) (s : State) : Answer :=
  if entries ≤ entryIndex f then refuse .badIndex s
  else if tablesBusy s then refuse .busy s
  else if s.layout ≠ .editing then refuse .sequence s
  else
    match parse (entryPart f) with
    | none => refuse .badField s
    | some a => written f { s with tables := { s.tables with layout := store (entryIndex f) a s.tables.layout } }

/-! ### Zone entries -/

/-- Some detector entry in use, or some defined exit entry, names a zone (R6). -/
def zoneNamed (s : State) (z : Nat) : Bool :=
  (List.range Config.detectorCount).any (fun i => (detectorEntry s i).inUse && decide ((detectorEntry s i).zone = z)) ||
    (List.range Config.exitCount).any (fun e => (exitEntry s e).defined && decide ((exitEntry s e).zone = z))

/-- A zone entry write that keeps the rules of the table (R3, R6). -/
def acceptZone (s : State) (z : Nat) (bs : List Byte) : Option ZoneEntry :=
  match parseZoneEntry bs with
  | none => none
  | some e => if e.defined = false ∧ zoneNamed s z = true then none else some e

/-- The effect of a zone entry write (R8). -/
def writeZone (z : Nat) (e : ZoneEntry) (s : State) : State :=
  recompute z (setStale z true { s with tables := { s.tables with zones := Tab.write ZoneEntry.empty s.tables.zones z e } })

/-! ### Detector entries -/

/-- Another detector entry in use holds the same address and channel (R4). -/
def pairTaken (s : State) (i : Nat) (e : DetectorEntry) : Bool :=
  (List.range Config.detectorCount).any (fun j => decide (j ≠ i) && (detectorEntry s j).inUse &&
    decide ((detectorEntry s j).address = e.address) && decide ((detectorEntry s j).channel = e.channel))

/-- A detector entry write that keeps the rules of the table (R4, R6). -/
def acceptDetector (s : State) (i : Nat) (bs : List Byte) : Option DetectorEntry :=
  match parseDetectorEntry bs with
  | none => none
  | some e => if e.inUse = true ∧ ((zoneEntry s e.zone).defined = false ∨ pairTaken s i e = true) then none else some e

/-- A detector entry write touches a latched zone: the present zone, or the new one (R7). -/
def detectorLatched (s : State) (i : Nat) (e : DetectorEntry) : Bool :=
  ((detectorEntry s i).inUse && zoneLatched s (detectorEntry s i).zone) || (e.inUse && zoneLatched s e.zone)

/-- The effect of a detector entry write (R9, R31). -/
def writeDetector (i : Nat) (e : DetectorEntry) (s : State) : State :=
  let old := detectorEntry s i
  let s1 := { s with tables := { s.tables with detectors := Tab.write DetectorEntry.empty s.tables.detectors i e } }
  let s2 := setDetectorRt s1 i { DetectorRt.reset with
    silence := if e.inUse && s1.portA.state.isUp then seconds s1.tables.params.silenceTime else none }
  let s3 := if old.inUse then recompute old.zone s2 else s2
  if e.inUse then recompute e.zone s3 else s3

/-! ### Exit entries -/

/-- An exit entry write that keeps the rules of the table (R5, R6). -/
def acceptExit (s : State) (_e : Nat) (bs : List Byte) : Option ExitEntry :=
  match parseExitEntry bs with
  | none => none
  | some x => if x.defined = true ∧ (zoneEntry s x.zone).defined = false then none else some x

/-- An exit entry write touches a latched zone (R7). -/
def exitLatched (s : State) (e : Nat) (x : ExitEntry) : Bool :=
  ((exitEntry s e).defined && zoneLatched s (exitEntry s e).zone) || (x.defined && zoneLatched s x.zone)

/-- The effect of an exit entry write (R10, R40). -/
def writeExit (e : Nat) (x : ExitEntry) (s : State) : State :=
  solveTrigger false (refreshUsability
    { s with tables := { s.tables with exits := Tab.write ExitEntry.empty s.tables.exits e x } } e)

/-! ### Parameters -/

/-- A parameter value in its range (R11). -/
def acceptParameter (_s : State) (i : Nat) (bs : List Byte) : Option Nat := if paramInRange i (at2 bs 0) then some (at2 bs 0) else none

/-- A write to this parameter index is handed to the solver as a change (R12). -/
def triggersSolve (i : Nat) : Bool := (decide (4 ≤ i) && decide (i ≤ 8)) || (decide (18 ≤ i) && decide (i ≤ 20))

/-- A written capture period starts a stopped period timer at once, the start wait having ended (R179). -/
def startPeriodIfStopped (s : State) : State :=
  if s.captures.timer.isNone ∧ s.mode.startWait = false then startCaptureTimer s else s

/-- The effect of a parameter write (R11, R12, R179). -/
def writeParameter (i v : Nat) (s : State) : State :=
  let s1 := { s with tables := { s.tables with params := paramSet s.tables.params i v } }
  let s2 := if i = 22 then startPeriodIfStopped s1 else s1
  if triggersSolve i then solveTrigger false s2 else s2

/-! ### Meanings -/

/-- ENTRY_WRITE_ZONE (R6 to R8): a zone write whose index is a latched zone is refused. -/
def execEntryWriteZone (s : State) : Host.Outcome State Fault Refusal :=
  run s (request .entryWriteZone (needing 7
    (installationWrite Config.zoneCount acceptZone (fun s z _ => zoneLatched s z) writeZone)))

/-- ENTRY_WRITE_DETECTOR (R6, R7, R9). -/
def execEntryWriteDetector (s : State) : Host.Outcome State Fault Refusal :=
  run s (request .entryWriteDetector (needing 7
    (installationWrite Config.detectorCount acceptDetector detectorLatched writeDetector)))

/-- ENTRY_WRITE_EXIT (R6, R7, R10). -/
def execEntryWriteExit (s : State) : Host.Outcome State Fault Refusal :=
  run s (request .entryWriteExit (needing 9 (installationWrite Config.exitCount acceptExit exitLatched writeExit)))

/-- ENTRY_WRITE_PARAMETER (R11, R12). -/
def execEntryWriteParameter (s : State) : Host.Outcome State Fault Refusal :=
  run s (request .entryWriteParameter (needing 5 (installationWrite 26 acceptParameter (fun _ _ _ => false) writeParameter)))

/-- ENTRY_WRITE_LAYOUT_HEADER (R13, R18). -/
def execEntryWriteLayoutHeader (s : State) : Host.Outcome State Fault Refusal :=
  run s (request .entryWriteLayoutHeader (needing 8 (layoutWrite 1 parseHeader (fun _ h l => { l with header := h }))))

/-- ENTRY_WRITE_PLACE (R14, R18). -/
def execEntryWritePlace (s : State) : Host.Outcome State Fault Refusal :=
  run s (request .entryWritePlace (needing 7 (layoutWrite Config.placeCapacity parsePlaceEntry
    (fun i e l => { l with places := Tab.write PlaceEntry.empty l.places i e }))))

/-- ENTRY_WRITE_PASSAGE (R15, R18). -/
def execEntryWritePassage (s : State) : Host.Outcome State Fault Refusal :=
  run s (request .entryWritePassage (needing 9 (layoutWrite Config.passageCapacity parsePassageEntry
    (fun i e l => { l with passages := Tab.write PassageEntry.empty l.passages i e }))))

/-- ENTRY_WRITE_SIGN (R16, R18). -/
def execEntryWriteSign (s : State) : Host.Outcome State Fault Refusal :=
  run s (request .entryWriteSign (needing 18 (layoutWrite Config.signCapacity parseSignEntry
    (fun i e l => { l with signs := Tab.write SignEntry.empty l.signs i e }))))

/-- ENTRY_WRITE_BOUNDARY (R17, R18). -/
def execEntryWriteBoundary (s : State) : Host.Outcome State Fault Refusal :=
  run s (request .entryWriteBoundary (needing 9 (layoutWrite Config.boundaryCount parseBoundaryEntry
    (fun i e l => { l with boundaries := Tab.write BoundaryEntry.empty l.boundaries i e }))))

/-- ENTRY_WRITE_OTHER_TABLE (R167, R173): a table that cannot be written is answered BAD_TABLE; fields with no table code, BAD_FIELD. -/
def execEntryWriteOtherTable (s : State) : Host.Outcome State Fault Refusal :=
  run s (request .entryWriteOtherTable (needing 1 (fun _ => refuse .badTable)))

end Sys2Proof.Machine
end

