-- ==== Sys2Proof/Machine/Dispatch.lean ====
section
/-! DEFINITION. One arm for each command: its meaning. -/

namespace Sys2Proof.Machine

/-- The effect of a command on everything but the queue of waiting commands. -/
def exec (i : Instr) (s : State) : Host.Outcome State Fault Refusal :=
  match i with
  | .powerReset => Sys2Proof.Machine.execPowerReset s
  | .pinReset => Sys2Proof.Machine.execPinReset s
  | .startUp straps => Sys2Proof.Machine.execStartUp straps s
  | .startUpReadEnd checkOk => Sys2Proof.Machine.execStartUpReadEnd checkOk s
  | .evacInFallingEdge => Sys2Proof.Machine.execEvacInFallingEdge s
  | .evacInRisingEdge => Sys2Proof.Machine.execEvacInRisingEdge s
  | .holdInFallingEdge => Sys2Proof.Machine.execHoldInFallingEdge s
  | .holdInRisingEdge => Sys2Proof.Machine.execHoldInRisingEdge s
  | .panelLineLockoutExpiry line => Sys2Proof.Machine.execPanelLineLockoutExpiry line s
  | .telegramArrival bytes => Sys2Proof.Machine.execTelegramArrival bytes s
  | .laneActivityAppears lane => Sys2Proof.Machine.execLaneActivityAppears lane s
  | .laneLossTimeout lane partlyReceiving => Sys2Proof.Machine.execLaneLossTimeout lane partlyReceiving s
  | .laneRestoreExpiry lane => Sys2Proof.Machine.execLaneRestoreExpiry lane s
  | .trainingRequestSeen lane idleFillSeen => Sys2Proof.Machine.execTrainingRequestSeen lane idleFillSeen s
  | .laneStatusReport lane0Up lane1Up => Sys2Proof.Machine.execLaneStatusReport lane0Up lane1Up s
  | .returnLaneSilence => Sys2Proof.Machine.execReturnLaneSilence s
  | .creditGrant haz sign mgmt ctl shared => Sys2Proof.Machine.execCreditGrant haz sign mgmt ctl shared s
  | .creditReturn kind => Sys2Proof.Machine.execCreditReturn kind s
  | .arbiterTake => Sys2Proof.Machine.execArbiterTake s
  | .transmissionComplete => Sys2Proof.Machine.execTransmissionComplete s
  | .creditStallExpiry cls => Sys2Proof.Machine.execCreditStallExpiry cls s
  | .poolSample => Sys2Proof.Machine.execPoolSample s
  | .creditWaitSample => Sys2Proof.Machine.execCreditWaitSample s
  | .beatTimerExpiry => Sys2Proof.Machine.execBeatTimerExpiry s
  | .roundLimitExpiry entry => Sys2Proof.Machine.execRoundLimitExpiry entry s
  | .retiredAddressDrop => Sys2Proof.Machine.execRetiredAddressDrop s
  | .uptimeTick => Sys2Proof.Machine.execUptimeTick s
  | .silenceTimerExpiry detector => Sys2Proof.Machine.execSilenceTimerExpiry detector s
  | .watchDecayExpiry zone => Sys2Proof.Machine.execWatchDecayExpiry zone s
  | .solveTake => Sys2Proof.Machine.execSolveTake s
  | .sweep => Sys2Proof.Machine.execSweep s
  | .solveSelect => Sys2Proof.Machine.execSolveSelect s
  | .solveCommit => Sys2Proof.Machine.execSolveCommit s
  | .recheckExpiry => Sys2Proof.Machine.execRecheckExpiry s
  | .holdTimerExpiry sign => Sys2Proof.Machine.execHoldTimerExpiry sign s
  | .confirmTimerExpiry sign => Sys2Proof.Machine.execConfirmTimerExpiry sign s
  | .refreshTimerExpiry => Sys2Proof.Machine.execRefreshTimerExpiry s
  | .defaultRepeatExpiry => Sys2Proof.Machine.execDefaultRepeatExpiry s
  | .ageTimerExpiry boundary => Sys2Proof.Machine.execAgeTimerExpiry boundary s
  | .advertPeriodExpiry => Sys2Proof.Machine.execAdvertPeriodExpiry s
  | .noticeSpacingExpiry => Sys2Proof.Machine.execNoticeSpacingExpiry s
  | .capturePeriodExpiry => Sys2Proof.Machine.execCapturePeriodExpiry s
  | .validationEnd => Sys2Proof.Machine.execValidationEnd s
  | .layoutReloadEnd checkOk => Sys2Proof.Machine.execLayoutReloadEnd checkOk s
  | .storeLoadEnd checkOk => Sys2Proof.Machine.execStoreLoadEnd checkOk s
  | .storeSaveEnd compareOk => Sys2Proof.Machine.execStoreSaveEnd compareOk s
  | .completionResponsePlacement => Sys2Proof.Machine.execCompletionResponsePlacement s
  | .restartComplete => Sys2Proof.Machine.execRestartComplete s
  | .unknownKind => Sys2Proof.Machine.execUnknownKind s
  | .statusRead => Sys2Proof.Machine.execStatusRead s
  | .entryRead => Sys2Proof.Machine.execEntryRead s
  | .entryWriteZone => Sys2Proof.Machine.execEntryWriteZone s
  | .entryWriteDetector => Sys2Proof.Machine.execEntryWriteDetector s
  | .entryWriteExit => Sys2Proof.Machine.execEntryWriteExit s
  | .entryWriteParameter => Sys2Proof.Machine.execEntryWriteParameter s
  | .entryWriteLayoutHeader => Sys2Proof.Machine.execEntryWriteLayoutHeader s
  | .entryWritePlace => Sys2Proof.Machine.execEntryWritePlace s
  | .entryWritePassage => Sys2Proof.Machine.execEntryWritePassage s
  | .entryWriteSign => Sys2Proof.Machine.execEntryWriteSign s
  | .entryWriteBoundary => Sys2Proof.Machine.execEntryWriteBoundary s
  | .entryWriteOtherTable => Sys2Proof.Machine.execEntryWriteOtherTable s
  | .layoutOpen => Sys2Proof.Machine.execLayoutOpen s
  | .layoutClose => Sys2Proof.Machine.execLayoutClose s
  | .layoutDiscard => Sys2Proof.Machine.execLayoutDiscard s
  | .modeSetQuiet => Sys2Proof.Machine.execModeSetQuiet s
  | .modeSetStandby => Sys2Proof.Machine.execModeSetStandby s
  | .modeSetMaint => Sys2Proof.Machine.execModeSetMaint s
  | .modeSetEvac => Sys2Proof.Machine.execModeSetEvac s
  | .evacCancel => Sys2Proof.Machine.execEvacCancel s
  | .zoneReset => Sys2Proof.Machine.execZoneReset s
  | .zoneIsolateOn => Sys2Proof.Machine.execZoneIsolateOn s
  | .zoneIsolateOff => Sys2Proof.Machine.execZoneIsolateOff s
  | .zoneConfirm => Sys2Proof.Machine.execZoneConfirm s
  | .exitSet => Sys2Proof.Machine.execExitSet s
  | .solveNow => Sys2Proof.Machine.execSolveNow s
  | .captureTake => Sys2Proof.Machine.execCaptureTake s
  | .captureReadPart0 => Sys2Proof.Machine.execCaptureReadPart0 s
  | .captureReadPart1 => Sys2Proof.Machine.execCaptureReadPart1 s
  | .captureReadPart2 => Sys2Proof.Machine.execCaptureReadPart2 s
  | .incidentRelease => Sys2Proof.Machine.execIncidentRelease s
  | .noticeSet => Sys2Proof.Machine.execNoticeSet s
  | .noticeClear => Sys2Proof.Machine.execNoticeClear s
  | .counterSet => Sys2Proof.Machine.execCounterSet s
  | .counterRead => Sys2Proof.Machine.execCounterRead s
  | .freeze => Sys2Proof.Machine.execFreeze s
  | .unfreeze => Sys2Proof.Machine.execUnfreeze s
  | .zeroAll => Sys2Proof.Machine.execZeroAll s
  | .clearOverflow => Sys2Proof.Machine.execClearOverflow s
  | .storeSave => Sys2Proof.Machine.execStoreSave s
  | .storeLoad => Sys2Proof.Machine.execStoreLoad s
  | .addressTake straps => Sys2Proof.Machine.execAddressTake straps s
  | .restart => Sys2Proof.Machine.execRestart s
  | .panelLineLevelChange line level => Sys2Proof.Machine.execPanelLineLevelChange line level s
  | .modeSetBadTarget => Sys2Proof.Machine.execModeSetBadTarget s
  | .zoneIsolateBadSetting => Sys2Proof.Machine.execZoneIsolateBadSetting s
  | .captureReadBadPart => Sys2Proof.Machine.execCaptureReadBadPart s
  | .counterControlBadAction => Sys2Proof.Machine.execCounterControlBadAction s

end Sys2Proof.Machine
end

