-- ==== Sys2Proof/Machine/Time.lean ====
section
/-! DEFINITION. The passing of time (log 4): one millisecond off every running timer, down to 0. What a timer does when its time has run
out is the meaning of its expiry command. -/

namespace Sys2Proof.Machine

/-- One millisecond off a running timer, down to 0. -/
def Timer.tick (t : Timer) : Timer := t.map (· - 1)

/-- A Port A lane after one millisecond. -/
def LaneA.tick (x : LaneA) : LaneA := { x with restore := Timer.tick x.restore }

/-- A stall record after one millisecond. -/
def Stall.tick (x : Stall) : Stall := { x with timer := Timer.tick x.timer }

/-- A panel line after one millisecond. -/
def PanelLine.tick (x : PanelLine) : PanelLine := { x with lockout := Timer.tick x.lockout }

/-- The hazard map after one millisecond. -/
def Hazard.tick (h : Hazard) : Hazard :=
  { h with
    detectors := Tab.updateAll DetectorRt.reset Config.detectorCount (fun _ r => { r with silence := Timer.tick r.silence }) h.detectors
    zones := Tab.updateAll ZoneRt.reset Config.zoneCount (fun _ r => { r with watch := Timer.tick r.watch }) h.zones }

/-- The sign scheduler after one millisecond. -/
def Signs.tick (g : Signs) : Signs :=
  { g with
    refreshTimer := Timer.tick g.refreshTimer, defaultTimer := Timer.tick g.defaultTimer
    records := Tab.updateAll SignRt.reset Config.signCapacity
      (fun _ r => { r with hold := Timer.tick r.hold, confirm := Timer.tick r.confirm }) g.records }

/-- The boundary exchange after one millisecond. -/
def Boundaries.tick (b : Boundaries) : Boundaries :=
  ⟨Tab.updateAll BoundaryRt.reset Config.boundaryCount (fun _ r => { r with age := Timer.tick r.age }) b.records, Timer.tick b.period⟩

/-- The stall timers after one millisecond. -/
def PerClass.tick (p : PerClass Stall) : PerClass Stall := ⟨p.haz.tick, p.sign.tick, p.mgmt.tick, p.ctl.tick⟩

/-- The cadence generator and the round check after one millisecond. -/
def Cadence.tick (c : Cadence) : Cadence :=
  { c with timer := Timer.tick c.timer, round := c.round.map (fun e => { e with timer := Timer.tick e.timer }) }

/-- The router after one millisecond in which no command is taken. -/
def tick (s : State) : State :=
  { s with
    hazard := s.hazard.tick
    solver := { s.solver with recheck := Timer.tick s.solver.recheck }
    signs := s.signs.tick
    boundaries := s.boundaries.tick
    mode := { s.mode with evacLine := s.mode.evacLine.tick, holdLine := s.mode.holdLine.tick }
    portA := { s.portA with lane0 := s.portA.lane0.tick, lane1 := s.portA.lane1.tick }
    forward := { s.forward with stalls := s.forward.stalls.tick }
    cadence := s.cadence.tick
    node := { s.node with retired := s.node.retired.map (fun r => { r with timer := Timer.tick r.timer }) }
    notices := { s.notices with spacing := Timer.tick s.notices.spacing }
    captures := { s.captures with timer := Timer.tick s.captures.timer } }

end Sys2Proof.Machine
end

