-- ==== Sys2Proof/Safety.lean ====
section
/-! DEFINITION. What should hold of the router in every state a run reaches: the canonical form of its tables, the bound of the pool and
its credits, the lifecycle, the update queue, the request queue, the ranges of its fields, and the soundness of a solution. -/

namespace Sys2Proof.Machine

/-! ### Canonical form -/

/-- Every table of a table set is in canonical form. -/
def Tables.wf (t : Tables) : Bool :=
  Tab.wf ZoneEntry.empty t.zones && Tab.wf DetectorEntry.empty t.detectors && Tab.wf ExitEntry.empty t.exits &&
    Tab.wf PlaceEntry.empty t.layout.places && Tab.wf PassageEntry.empty t.layout.passages &&
    Tab.wf SignEntry.empty t.layout.signs && Tab.wf BoundaryEntry.empty t.layout.boundaries

/-- Every table and array of records of the router, the stored image's too, is in canonical form. -/
def State.canonical (s : State) : Bool :=
  s.tables.wf && s.store.image.wf && Tab.wf DetectorRt.reset s.hazard.detectors && Tab.wf ZoneRt.reset s.hazard.zones &&
    Tab.wf ExitRt.reset s.hazard.exits && Tab.wf SignRt.reset s.signs.records && Tab.wf BoundaryRt.reset s.boundaries.records &&
    Tab.wf CauseRec.reset s.notices.causes && Tab.wf Counter.reset s.counters.table

/-! ### The pool and its credits -/

/-- The kinds of credit. -/
def creditKinds : List CreditKind := [.dedicated .haz, .dedicated .sign, .dedicated .mgmt, .dedicated .ctl, .shared]

/-- For each kind, the occupied slots and the credits granted and not yet used number at most the slots of that kind (R150). -/
def PortA.bounded (a : PortA) : Bool :=
  creditKinds.all (fun k => decide (occupied a.pool k + a.outstanding.count k ≤ capacity k))

/-! ### The layout lifecycle, the store and the mode -/

/-- How layout, store, mode and fire path go together: the layout is ACTIVE in every mode but MAINT (R18, R126); the store runs a reload
or a load only while the layout is RELOADING (R19); the start-up read stands in MAINT with no layout (R134); a fire path waits only for
a validation or a reload (R130); a solve in flight and a committed solution stand only with the layout ACTIVE (R19, R26), and a snapshot
only with a solve in flight (R76). -/
def State.lifecycle (s : State) : Bool :=
  (decide (s.mode.mode = .maint) || decide (s.layout = .active)) &&
    (!(decide (s.store.op = .layoutReload) || decide (s.store.op = .load)) || decide (s.layout = .reloading)) &&
    (!decide (s.store.op = .startUpRead) || (decide (s.mode.mode = .maint) && decide (s.layout = .none))) &&
    (!s.mode.fireWaiting || layoutBusy s) &&
    (decide (s.solver.phase = .idle) || decide (s.layout = .active)) &&
    (s.solver.snapshot.isNone || decide (s.solver.phase ≠ .idle)) &&
    (s.solver.committed.isNone || decide (s.layout = .active))

/-! ### Queues -/

/-- The update queue holds each sign at most once (R90). -/
def Signs.queueOnce (g : Signs) : Prop := (g.forced ++ g.ordinary).Nodup

/-- The request queue holds at most four entries, the round check list at most ten, and both capture slots at most one record each
(R160, R164, R180). -/
def State.queuesBounded (s : State) : Bool :=
  decide (s.requests.queue.length ≤ Config.requestQueueLimit) && decide (s.cadence.round.length ≤ Config.roundListLimit) &&
    decide ((s.captures.filled.map (·.slot)) ∈ ([[], [0], [1], [0, 1], [1, 0]] : List (List Nat)))

/-! ### Ranges -/

/-- A zone entry in the ranges of R3. -/
def ZoneEntry.inRange (e : ZoneEntry) : Bool := decide (2 ≤ e.denseQuorum) && decide (e.denseQuorum ≤ 8)

/-- A detector entry in the ranges of R4. -/
def DetectorEntry.inRange (e : DetectorEntry) : Bool :=
  decide (e.address ≤ 250) && decide (e.channel ≤ 3) && decide (e.zone ≤ 63) && decide (1 ≤ e.weight) && decide (e.weight ≤ 3)

/-- An exit entry in the ranges of R5. -/
def ExitEntry.inRange (e : ExitEntry) : Bool :=
  decide (e.zone ≤ 63) && decide (e.baseCost ≤ 1000) && decide (e.catchmentLimit ≤ 255) && decide (1 ≤ e.toneClass) &&
    decide (e.toneClass ≤ 4)

/-- A layout header in the ranges of R13. -/
def Header.inRange (e : Header) : Bool :=
  decide (e.placeCount ≤ Config.placeCapacity) && decide (e.passageCount ≤ Config.passageCapacity) &&
    decide (e.signCount ≤ Config.signCapacity)

/-- A place entry in the ranges of R14: an exit id just for an EXIT place, a boundary index just for a BOUNDARY place. -/
def PlaceEntry.inRange (e : PlaceEntry) : Bool :=
  decide (e.zone ≤ 63) && (e.exitId.isSome == decide (e.kind = .exit)) && e.exitId.all (fun x => decide (x ≤ 31)) &&
    (e.boundary.isSome == decide (e.kind = .boundary)) && e.boundary.all (fun b => decide (b ≤ 7))

/-- A passage entry in the ranges of R15. -/
def PassageEntry.inRange (e : PassageEntry) : Bool :=
  decide (e.endA ≤ 255) && decide (e.endB ≤ 255) && decide (e.length ≤ 65535) && e.via.all (fun z => decide (z ≤ 63))

/-- A written sign entry in the ranges of R16: one to four faces, each a passage index or CROSSING. -/
def SignEntry.inRange (e : SignEntry) : Bool :=
  decide (e.address ≤ 255) && decide (e.unit ≤ 3) && decide (e.place ≤ 255) && decide (1 ≤ e.faces.length) &&
    decide (e.faces.length ≤ 4) &&
    e.faces.all (fun w => match w with
      | .passage p => decide (p < Config.passageCapacity)
      | .crossing => true) &&
    decide (e.homeFace ≤ 255) && decide (e.fallbackFace ≤ 255)

/-- A boundary entry in the ranges of R17. -/
def BoundaryEntry.inRange (e : BoundaryEntry) : Bool :=
  decide (e.id ≤ 255) && decide (e.place ≤ 255) && decide (e.peer ≤ 255) && decide (e.crossingCost ≤ 65535)

/-- Every listed entry of a table is in range. -/
def Tab.inRange {α : Type} (ok : α → Bool) (t : Tab α) : Bool := t.all (fun p => ok p.2)

/-- Every parameter is in the range of Table 1-5. -/
def Params.inRange (p : Params) : Bool := (List.range 26).all (fun i => paramInRange i (paramGet p i))

/-- Every field of a table set is in range. -/
def Tables.inRange (t : Tables) : Bool :=
  Tab.inRange ZoneEntry.inRange t.zones && Tab.inRange DetectorEntry.inRange t.detectors && Tab.inRange ExitEntry.inRange t.exits &&
    t.params.inRange && t.layout.header.inRange && Tab.inRange PlaceEntry.inRange t.layout.places &&
    Tab.inRange PassageEntry.inRange t.layout.passages && Tab.inRange SignEntry.inRange t.layout.signs &&
    Tab.inRange BoundaryEntry.inRange t.layout.boundaries

/-- The fields of the tables and of the stored image are in range. -/
def State.fieldsInRange (s : State) : Bool := s.tables.inRange && s.store.image.inRange

/-- The address is 0 (unaddressed) or 1 to 250, and so is a retired address (R145, R146). -/
def State.addressInRange (s : State) : Bool :=
  decide (s.node.address ≤ 250) && s.node.retired.all (fun r => decide (1 ≤ r.address) && decide (r.address ≤ 250))

/-! ### Soundness of a solution -/

/-- The passage that a record leads over, if any. -/
def SolRec.over (r : SolRec) : Option Nat :=
  match r.next with
  | some (.passage p) => some p
  | some .crossing => none
  | none => none

/-- A TARGET record has no next, and no other record uses a passage that its tier bars: a SAFE route touches no SMOKE or DENSE zone of the
snapshot, and no route touches a DENSE one (R68, R79); `harm` is the tier whose sweeps are running, for records that have no tier yet. -/
def SolRec.sound (sn : Snapshot) (l : LayoutTables) (harm : Bool) (r : SolRec) : Bool :=
  match r.tier with
  | .target => r.next.isNone
  | .safe => r.over.all (fun p => (passagePenalty sn l false p).isSome)
  | .leastHarm => r.over.all (fun p => (passagePenalty sn l true p).isSome)
  | .none => r.over.all (fun p => (passagePenalty sn l harm p).isSome)

/-- A passage may be travelled from one place to another (R15, R65). -/
def leads (l : LayoutTables) (p u v : Nat) : Prop :=
  ((passageOf l p).direction ≠ .bToA ∧ u = (passageOf l p).endA ∧ v = (passageOf l p).endB) ∨
  ((passageOf l p).direction ≠ .aToB ∧ u = (passageOf l p).endB ∧ v = (passageOf l p).endA)

/-- Every record of the working solution is sound for the snapshot that the solve reads. -/
def State.workSound (s : State) : Bool :=
  match s.solver.snapshot with
  | none => true
  | some sn => s.solver.work.all (SolRec.sound sn s.tables.layout (decide (s.solver.phase ≠ .safeSweep)))

/-! ### Timers that follow conditions -/

/-- The timers that run only while conditions hold are stopped where their conditions do not (R93, R105, R153, R159). -/
def State.timersFollow (s : State) : Prop :=
  (beatRuns s = false → s.cadence.timer = none ∧ s.cadence.slot = none) ∧
  (refreshRuns s = false → s.signs.refreshTimer = none ∧ s.signs.refreshDue = false) ∧
  (defaultRuns s = false → s.signs.defaultTimer = none) ∧
  (∀ c : TClass, starved s c = false → (s.forward.stalls.get c).timer = none)

/-- The timer whose end an expiry command stands for, stopped where there is none; no timer for any other command. -/
def expiryTimer (s : State) : Instr → Option Timer
  | .panelLineLockoutExpiry l => some (panelLine s l).lockout
  | .laneRestoreExpiry l => some (s.portA.lane l).restore
  | .creditStallExpiry c => some (s.forward.stalls.get c).timer
  | .beatTimerExpiry => some s.cadence.timer
  | .roundLimitExpiry i => some ((s.cadence.round[i]?).bind (·.timer))
  | .retiredAddressDrop => some (s.node.retired.bind (·.timer))
  | .silenceTimerExpiry i => some (detectorRt s i).silence
  | .watchDecayExpiry z => some (zoneRt s z).watch
  | .recheckExpiry => some s.solver.recheck
  | .holdTimerExpiry i => some (signRt s i).hold
  | .confirmTimerExpiry i => some (signRt s i).confirm
  | .refreshTimerExpiry => some s.signs.refreshTimer
  | .defaultRepeatExpiry => some s.signs.defaultTimer
  | .ageTimerExpiry b => some (boundaryRt s b).age
  | .advertPeriodExpiry => some s.boundaries.period
  | .noticeSpacingExpiry => some s.notices.spacing
  | .capturePeriodExpiry => some s.captures.timer
  | _ => none

/-- Every sign in the update queue has a desired presentation (R88). -/
def State.queuePresent (s : State) : Prop :=
  ∀ i, i ∈ s.signs.forced ++ s.signs.ordinary → (signRt s i).desired.isSome = true

/-! ### Entries -/

/-- A table whose empty entry is `d` gives back at an index the entry stored there, and at every other index what it held. -/
def StoresEntries {α : Type} [DecidableEq α] (d : α) : Prop :=
  ∀ (t : Tab α) (i : Nat) (e : α), Tab.wf d t = true →
    Tab.read d (Tab.write d t i e) i = e ∧ ∀ j, j ≠ i → Tab.read d (Tab.write d t i e) j = Tab.read d t j

/-! ### Validation -/

/-- What a check of Table 1-7 asks of the entry at an index, that of a place for checks 2 to 4, of a passage for check 5, of a boundary for
check 6 and of a sign for check 7 (R22). Check 1 is of the tables as a whole. -/
def entryPasses (t : Tables) (check i : Nat) : Prop :=
  match check with
  | 2 => (placeOf t.layout i).kind = .exit →
      ∃ x, (placeOf t.layout i).exitId = some x ∧ (Tab.read ExitEntry.empty t.exits x).defined = true ∧
        ∀ j, j < i → (placeOf t.layout j).kind = .exit → (placeOf t.layout j).exitId ≠ some x
  | 3 => (placeOf t.layout i).kind = .boundary →
      ∃ b, (placeOf t.layout i).boundary = some b ∧ (boundaryOf t.layout b).defined = true ∧ (boundaryOf t.layout b).place = i
  | 4 => (placeOf t.layout i).kind = .junction →
      3 ≤ ((List.range t.layout.header.passageCount).filter
        (fun p => decide ((passageOf t.layout p).endA = i ∨ (passageOf t.layout p).endB = i))).length
  | 5 => (passageOf t.layout i).endA < t.layout.header.placeCount ∧ (passageOf t.layout i).endB < t.layout.header.placeCount ∧
      (passageOf t.layout i).endA ≠ (passageOf t.layout i).endB ∧ 1 ≤ (passageOf t.layout i).length ∧
      (passageOf t.layout i).length ≤ 1000 ∧
      ∀ z, (passageOf t.layout i).via = some z → (Tab.read ZoneEntry.empty t.zones z).defined = true
  | 6 => (boundaryOf t.layout i).defined = true →
      1 ≤ (boundaryOf t.layout i).id ∧ (boundaryOf t.layout i).id ≤ 63 ∧
      (boundaryOf t.layout i).place < t.layout.header.placeCount ∧
      (placeOf t.layout (boundaryOf t.layout i).place).kind = .boundary ∧
      (placeOf t.layout (boundaryOf t.layout i).place).boundary = some i ∧
      1 ≤ (boundaryOf t.layout i).peer ∧ (boundaryOf t.layout i).peer ≤ 250 ∧ (boundaryOf t.layout i).crossingCost ≤ 500 ∧
      ∀ j, j < i → (boundaryOf t.layout j).defined = true → (boundaryOf t.layout j).id ≠ (boundaryOf t.layout i).id
  | 7 => (signOf t.layout i).place < t.layout.header.placeCount ∧ 1 ≤ (signOf t.layout i).faces.length ∧
      (∀ w, w ∈ (signOf t.layout i).faces →
        (∃ p, w = .passage p ∧ p < t.layout.header.passageCount ∧
          ((passageOf t.layout p).endA = (signOf t.layout i).place ∨ (passageOf t.layout p).endB = (signOf t.layout i).place)) ∨
        (w = .crossing ∧ (placeOf t.layout (signOf t.layout i).place).kind = .boundary)) ∧
      1 ≤ (signOf t.layout i).homeFace ∧ (signOf t.layout i).homeFace ≤ (signOf t.layout i).faces.length ∧
      1 ≤ (signOf t.layout i).fallbackFace ∧ (signOf t.layout i).fallbackFace ≤ (signOf t.layout i).faces.length ∧
      1 ≤ (signOf t.layout i).address ∧ (signOf t.layout i).address ≤ 250 ∧
      ∀ j, j < i → ¬((signOf t.layout j).address = (signOf t.layout i).address ∧ (signOf t.layout j).unit = (signOf t.layout i).unit)
  | _ => True

/-- A check of Table 1-7 that takes entries: its code, the code of the table it reports, and how many entries it takes. -/
structure EntryCheck where
  check : Nat
  table : Nat
  entries : Nat

/-- Checks 2 to 7 in their order (R22). -/
def entryChecks (h : Header) : List EntryCheck :=
  [⟨2, 5, h.placeCount⟩, ⟨3, 5, h.placeCount⟩, ⟨4, 5, h.placeCount⟩, ⟨5, 6, h.passageCount⟩, ⟨6, 8, 8⟩, ⟨7, 7, h.signCount⟩]

/-! ### Frames -/

/-- The parts of the router's state. -/
inductive Part where
  | pending | inReset | tables | layout | validation | store | hazard | solver | signs | boundaries | mode | portA | portB | forward
  | cadence | node | requests | notices | captures | counters | uptime
deriving DecidableEq, Repr

/-- A part is the same in two states. Of the sign scheduler, the cadence generator and the forward path it says so of everything but what
the end of a step moves by itself (log 30): the refresh and default repeat timers, the beats, and the stall records. -/
def Part.same (s t : State) : Part → Prop
  | .pending => t.pending = s.pending
  | .inReset => t.inReset = s.inReset
  | .tables => t.tables = s.tables
  | .layout => t.layout = s.layout
  | .validation => t.validation = s.validation
  | .store => t.store = s.store
  | .hazard => t.hazard = s.hazard
  | .solver => t.solver = s.solver
  | .signs => t.signs.selections = s.signs.selections ∧ t.signs.hazardRef = s.signs.hazardRef ∧ t.signs.forced = s.signs.forced ∧
      t.signs.ordinary = s.signs.ordinary ∧ t.signs.refreshPtr = s.signs.refreshPtr ∧ t.signs.defaultSlot = s.signs.defaultSlot ∧
      t.signs.records = s.signs.records
  | .boundaries => t.boundaries = s.boundaries
  | .mode => t.mode = s.mode
  | .portA => t.portA = s.portA
  | .portB => t.portB = s.portB
  | .forward => t.forward.tx = s.forward.tx ∧ t.forward.resend = s.forward.resend ∧ t.forward.turn = s.forward.turn
  | .cadence => t.cadence.round = s.cadence.round ∧ t.cadence.missCount = s.cadence.missCount ∧
      t.cadence.loopOpen = s.cadence.loopOpen ∧ t.cadence.lateBeats = s.cadence.lateBeats
  | .node => t.node = s.node
  | .requests => t.requests = s.requests
  | .notices => t.notices = s.notices
  | .captures => t.captures = s.captures
  | .counters => t.counters = s.counters
  | .uptime => t.uptime = s.uptime

/-- `t` is `s` in every part but those named. -/
def KeepsAllBut (ps : List Part) (s t : State) : Prop := ∀ p, p ∉ ps → p.same s t

/-! ### Requests -/

/-- The request handler may begin the entry `e` at the head of its queue, and a row of the table executes it (R165). -/
def Begins (row : ReqRow) (e : ReqEntry) (s : State) : Prop :=
  s.inReset = false ∧ handlerFree s = true ∧ s.requests.queue.head? = some e ∧ requestRow e.payload = row

/-- Executing the head entry makes the effect `u` and answers with a status and fields: what follows is the end of the execution
(`finish`) and of the step (`settle`). -/
def Answers (c : Instr) (s : State) (e : ReqEntry) (st : Status) (fields : List Byte) (u : State) : Prop :=
  exec c s = .next (settle s (finish e ⟨st, fields, u⟩))

/-- How a row of ENTRY_WRITE judges a write to an installation table: the bytes its fields take, the entries of its table, whether the entry
is bad, and whether it touches a latched zone (R6, R7). -/
structure InstallationCase where
  command : Instr
  row : ReqRow
  bytes : Nat
  entries : Nat
  bad : Bool
  latched : Bool

/-- The four installation writes of an entry part `bs` at index `i`. -/
def installationCases (s : State) (i : Nat) (bs : List Byte) : List InstallationCase :=
  [⟨.entryWriteZone, .entryWriteZone, 7, 64, (acceptZone s i bs).isNone, zoneLatched s i⟩,
   ⟨.entryWriteDetector, .entryWriteDetector, 7, 256, (acceptDetector s i bs).isNone,
     ((acceptDetector s i bs).map (detectorLatched s i)).getD false⟩,
   ⟨.entryWriteExit, .entryWriteExit, 9, 32, (acceptExit s i bs).isNone, ((acceptExit s i bs).map (exitLatched s i)).getD false⟩,
   ⟨.entryWriteParameter, .entryWriteParameter, 5, 26, !paramInRange i (at2 bs 0), false⟩]

/-- How a row of ENTRY_WRITE judges a write to a layout table: the bytes its fields take, the entries of its table, and the layout tables
with the entry stored, none where the entry is bad (R18). -/
structure LayoutCase where
  command : Instr
  row : ReqRow
  bytes : Nat
  entries : Nat
  stored : Option LayoutTables

/-- The five layout writes of an entry part `bs` at index `i` of the layout tables `l`. -/
def layoutCases (l : LayoutTables) (i : Nat) (bs : List Byte) : List LayoutCase :=
  [⟨.entryWriteLayoutHeader, .entryWriteLayoutHeader, 8, 1, (parseHeader bs).map (fun h => { l with header := h })⟩,
   ⟨.entryWritePlace, .entryWritePlace, 7, 256,
     (parsePlaceEntry bs).map (fun p => { l with places := Tab.write PlaceEntry.empty l.places i p })⟩,
   ⟨.entryWritePassage, .entryWritePassage, 9, 1024,
     (parsePassageEntry bs).map (fun p => { l with passages := Tab.write PassageEntry.empty l.passages i p })⟩,
   ⟨.entryWriteSign, .entryWriteSign, 18, 192,
     (parseSignEntry bs).map (fun p => { l with signs := Tab.write SignEntry.empty l.signs i p })⟩,
   ⟨.entryWriteBoundary, .entryWriteBoundary, 9, 8,
     (parseBoundaryEntry bs).map (fun p => { l with boundaries := Tab.write BoundaryEntry.empty l.boundaries i p })⟩]

end Sys2Proof.Machine
end

