-- ==== Sys2Proof/Certificates/Slice0/Obligations.lean ====
section
/-! DEFINITION. The statements for the provers. Each is about the router's commands (`exec`, `step`) or about one shared operation that
they use; `KeepsAllBut` gives the frame, `Answers` and `Begins` the shape of a request's execution. -/

section Statements

open Sys2Proof Sys2Proof.Machine

/-! ### Steps, time and resets -/

/-- A step takes the command at the front of the queue: its outcome is that of the command on the state with the queue's rest (log 1). -/
def Obligations.StepTakesTheFrontCommand : Prop :=
  ∀ (c : Instr) (rest : List Instr) (s : State), s.pending = c :: rest → step s = exec c { s with pending := rest }

/-- The model's choice (log 4): a step on an empty queue lets one millisecond pass, which every running timer loses, and does nothing else. An
expiry command acts only where its timer has run out: with the timer stopped or with time left it changes nothing (log 2), but for what the
end of every step does (log 30). -/
def Obligations.EmptyQueuePassesOneMillisecond : Prop :=
  (∀ s : State, s.pending = [] → s.canonical = true →
    ∃ t, step s = .next t ∧
      t.solver = { s.solver with recheck := s.solver.recheck.map (· - 1) } ∧
      t.captures = { s.captures with timer := s.captures.timer.map (· - 1) } ∧
      t.notices = { s.notices with spacing := s.notices.spacing.map (· - 1) } ∧
      t.mode = { s.mode with evacLine := { s.mode.evacLine with lockout := s.mode.evacLine.lockout.map (· - 1) },
                             holdLine := { s.mode.holdLine with lockout := s.mode.holdLine.lockout.map (· - 1) } } ∧
      t.cadence = { s.cadence with timer := s.cadence.timer.map (· - 1),
                                   round := s.cadence.round.map (fun e => { e with timer := e.timer.map (· - 1) }) } ∧
      t.boundaries.period = s.boundaries.period.map (· - 1) ∧
      (∀ b, boundaryRt t b =
        (if b < 8 then { boundaryRt s b with age := (boundaryRt s b).age.map (· - 1) } else boundaryRt s b)) ∧
      (∀ i, detectorRt t i =
        (if i < 256 then { detectorRt s i with silence := (detectorRt s i).silence.map (· - 1) } else detectorRt s i)) ∧
      (∀ z, zoneRt t z = (if z < 64 then { zoneRt s z with watch := (zoneRt s z).watch.map (· - 1) } else zoneRt s z)) ∧
      (∀ i, signRt t i =
        (if i < 192 then { signRt s i with hold := (signRt s i).hold.map (· - 1), confirm := (signRt s i).confirm.map (· - 1) }
         else signRt s i)) ∧
      t.signs = { s.signs with refreshTimer := s.signs.refreshTimer.map (· - 1), defaultTimer := s.signs.defaultTimer.map (· - 1),
                               records := t.signs.records } ∧
      t.portA = { s.portA with lane0 := { s.portA.lane0 with restore := s.portA.lane0.restore.map (· - 1) },
                               lane1 := { s.portA.lane1 with restore := s.portA.lane1.restore.map (· - 1) } } ∧
      t.node = { s.node with retired := s.node.retired.map (fun r => { r with timer := r.timer.map (· - 1) }) } ∧
      t.forward = { s.forward with stalls := t.forward.stalls } ∧
      (∀ c, t.forward.stalls.get c =
        { s.forward.stalls.get c with timer := (s.forward.stalls.get c).timer.map (· - 1) }) ∧
      t.hazard.exits = s.hazard.exits ∧ t.draws = s.draws ∧
      KeepsAllBut [.solver, .captures, .notices, .mode, .cadence, .boundaries, .hazard, .signs, .portA, .node] s t) ∧
  (∀ (c : Instr) (s : State) (x : Timer), expiryTimer s c = some x → x ≠ some 0 →
    exec c s = .next (if s.inReset then s else settle s s))

/-- POWER and PIN put every block at its reset values, from any state: the tables empty and the parameters at their defaults, the layout NONE,
the mode MAINT with the start wait set, every zone and detector record at its reset value, the generation and the uptime 0, the store LOADING
with its image and save count kept, and STARTED latched with the detail of the reset kind. On `State.reset` POWER changes nothing: it is the
router after POWER (what it holds before start-up is log 5 to 7). Until start-up begins every block is held there: no command but a reset,
START_UP and a level change of a panel line has any effect (log 2). That a held grant of Port B is dropped is the model's choice (log 48), and
so is that no operation is recorded (log 3) and that no telegram counts as seen on a lane (log 9). -/
def Obligations.PowerAndPinLeaveResetValues : Prop :=
  (∀ (s : State) (c : Instr) (detail : Nat), ((c = .powerReset ∧ detail = 0) ∨ (c = .pinReset ∧ detail = 1)) →
    ∃ t, exec c s = .next t ∧ t.inReset = true ∧
      t.tables = Tables.empty ∧ t.layout = .none ∧ t.validation = ⟨false, 0, 0, 0⟩ ∧
      t.store = { s.store with op := .startUpRead, valid := false } ∧
      t.mode.mode = .maint ∧ t.mode.startWait = true ∧ t.mode.heldEvac = false ∧ t.mode.evacDemand = false ∧ t.mode.frozen = false ∧
      t.mode.fireWaiting = false ∧ t.mode.fireEvac = false ∧ t.mode.lineCause = false ∧
      t.mode.evacLine.accepted = .inactive ∧ t.mode.holdLine.accepted = .inactive ∧
      t.mode.evacLine.lockout = none ∧ t.mode.holdLine.lockout = none ∧
      (∀ z, zoneRt t z = ZoneRt.reset) ∧ (∀ i, detectorRt t i = DetectorRt.reset) ∧ (∀ e, exitRt t e = ExitRt.reset) ∧
      t.solver = Solver.reset ∧ t.signs = Signs.reset ∧ (∀ i, signRt t i = SignRt.reset) ∧
      (∀ b, boundaryRt t b = BoundaryRt.reset) ∧ t.boundaries.period = none ∧
      t.portA.lane0 = LaneA.reset ∧ t.portA.lane1 = LaneA.reset ∧ t.portA.state = .training ∧ t.portA.outstanding = Credits.zero ∧
      t.portA.pool = [] ∧ t.portB = PortB.reset ∧ t.forward = Forward.reset ∧ t.cadence = Cadence.reset ∧
      t.node.retired = none ∧ t.node.discardedTakes = 0 ∧ t.requests = Requests.reset ∧
      causeRec t 13 = ⟨true, false, detail⟩ ∧ (∀ n, n ≠ 13 → causeRec t n = CauseRec.reset) ∧
      t.notices.master = false ∧ t.notices.spacing = none ∧ t.captures = Captures.reset ∧
      (∀ n, counterAt t n = Counter.reset) ∧ t.counters.frozen = false ∧ t.uptime = 0) ∧
  exec .powerReset State.reset = .next State.reset ∧
  (∀ (s : State) (c : Instr), s.inReset = true → c ≠ .powerReset → c ≠ .pinReset → (∀ x, c ≠ .startUp x) →
    (∀ l v, c ≠ .panelLineLevelChange l v) → exec c s = .next s)

/-- START_UP reads the address from the straps: 1..250 is the address, any other value leaves the router unaddressed. The start-up read then
ends with a valid image, whose tables are loaded and whose layout is activated, or leaves the tables as they were. Either way the store
becomes IDLE and the start wait ends. Where no cause is held or present, the mode is the start mode just loaded, or stays MAINT. That the
command says whether the image is read back as it was written is the model's choice (log 8), and the check is a free value of the model (log
35). -/
def Obligations.StartUpReadsStrapsAndImage : Prop :=
  (∀ (s : State) (straps : Byte), s.inReset = true →
    ∃ t, exec (.startUp straps) s = .next t ∧ t.inReset = false ∧ t.node.straps = straps ∧
      t.node.address = (if 1 ≤ straps.toNat ∧ straps.toNat ≤ 250 then straps.toNat else 0) ∧
      t.node.retired = s.node.retired ∧ t.node.discardedTakes = s.node.discardedTakes ∧ KeepsAllBut [.inReset, .node] s t) ∧
  (∀ (s : State) (ok : Bool), s.inReset = false → s.store.op = .startUpRead → s.layout = .none →
    ∃ t, exec (.startUpReadEnd ok) s = .next t ∧ t.mode.startWait = false ∧ t.mode.heldEvac = false ∧
      t.store = { s.store with op := .idle, valid := imageValid s.store ok } ∧
      (imageValid s.store ok = true → t.tables = s.store.image ∧ t.layout = .active ∧ t.solver.phase = .take) ∧
      (imageValid s.store ok = false → t.tables = s.tables ∧ t.layout = .none ∧ t.hazard = s.hazard ∧ t.mode.mode = .maint) ∧
      (s.mode.heldEvac = false → s.mode.evacLine.raw = s.mode.evacLine.accepted → s.mode.holdLine.raw = s.mode.holdLine.accepted →
        (∀ z, z < 64 → zoneState t z ≠ .watch ∧ zoneState t z ≠ .smoke ∧ zoneState t z ≠ .dense) →
        t.mode.mode = (if imageValid s.store ok = true then (if s.store.image.params.startMode = 0 then .quiet else .standby)
                       else .maint)) ∧
      t.captures.timer = (if 10 ≤ t.tables.params.capturePeriod then some (t.tables.params.capturePeriod * 1000) else none) ∧
      KeepsAllBut [.tables, .layout, .store, .hazard, .solver, .signs, .boundaries, .mode, .cadence, .notices, .captures, .counters] s t)

/-- The uptime clock advances by one unit at its tick and wraps to 0; POWER and PIN set it to 0, and no other command changes it. STATUS_READ
page 0 returns it in bytes 4 to 7 and every capture stamps it. -/
def Obligations.UptimeClockCountsAndWraps : Prop :=
  (∀ s : State, s.inReset = false → ∃ t, exec .uptimeTick s = .next t ∧ t.uptime = s.uptime + 1 ∧ KeepsAllBut [.uptime] s t) ∧
  (BitVec.ofNat 32 4294967295 + 1 = 0#32) ∧
  (∀ s : State, (∃ t, exec .powerReset s = .next t ∧ t.uptime = 0) ∧ (∃ t, exec .pinReset s = .next t ∧ t.uptime = 0)) ∧
  (∀ (c : Instr) (s : State), c ≠ .uptimeTick → c ≠ .powerReset → c ≠ .pinReset →
    ∃ t, exec c s = .next t ∧ t.uptime = s.uptime) ∧
  (∀ s : State, ((page0 s).drop 4).take 4 = num4 s.uptime.toNat) ∧
  (∀ (g : Trigger) (s : State), (captureOf g s).uptime = s.uptime)

/-! ### Panel lines and modes -/

/-- An accepted EVAC_IN falling edge sets the EVAC demand and starts the lockout. In QUIET, STANDBY and ALERT it enters EVAC, which latches
MODE_CHANGED with the mode before, restarts the beats and triggers an EVAC_LINE capture; in EVAC it makes no change; in MAINT it is a fire
cause, of EVAC and with the line cause, and with no layout it takes the NONE case of the fire path. -/
def Obligations.EvacInFallingEdgeOrdersEvac : Prop :=
  ∀ s : State, s.canonical = true → s.inReset = false → s.mode.startWait = false → s.mode.evacLine.lockout = none →
    s.mode.evacLine.accepted = .inactive →
    ∃ t, exec .evacInFallingEdge s = .next t ∧ t.mode.evacDemand = true ∧ t.mode.evacLine = ⟨.active, .active, some 20⟩ ∧
      t.mode.holdLine = s.mode.holdLine ∧
      (s.mode.mode ≠ .maint → t.mode.mode = .evac ∧ KeepsAllBut [.mode, .notices, .signs, .captures] s t) ∧
      (s.mode.mode ≠ .maint → s.mode.mode ≠ .evac →
        (causeRec t 5).latched = true ∧ (causeRec t 5).detail = modeCode s.mode.mode ∧ t.mode.frozen = false ∧
        t.cadence.slot = (if beatRuns s then some 0 else none) ∧ t.cadence.nextBeat = (if beatRuns s then 1 else 0) ∧
        (∀ n, emptySlot s.captures.filled = some n →
          ∃ x : Capture, t.captures.filled = s.captures.filled ++ [⟨n, x⟩] ∧ x.trigger = .evacLine ∧ x.mode = .evac ∧
            t.captures.overflow = s.captures.overflow ∧ (causeRec t 9).latched = true ∧ (causeRec t 9).detail = n) ∧
        (emptySlot s.captures.filled = none →
          t.captures.filled = s.captures.filled ∧ t.captures.overflow = true ∧ (causeRec t 10).latched = true ∧
            (causeRec t 10).detail = 2)) ∧
      (s.mode.mode = .evac → KeepsAllBut [.mode] s t) ∧
      (s.mode.mode = .maint → s.mode.fireWaiting = false → s.layout = .none →
        t.mode.mode = .maint ∧ (causeRec t 2).latched = true ∧ (causeRec t 2).detail = 1 ∧
        t.signs.defaultSlot = (addressed s || s.signs.defaultSlot) ∧ KeepsAllBut [.mode, .notices, .signs] s t) ∧
      (s.mode.mode = .maint →
        t = settle s (fireCause true true
          { s with mode := { s.mode with evacDemand := true, evacLine := ⟨.active, .active, some 20⟩ } }))

/-- A rising edge of EVAC_IN clears the EVAC demand and does nothing else. A falling edge of HOLD_IN starts the freeze in STANDBY or QUIET
with the store not SAVING; its rising edge ends it. A lockout that expires on an unchanged level only stops; on a changed one it accepts the
edge and runs anew. A level change of a line that is not looked at is kept, and nothing else. -/
def Obligations.PanelLinesAreTakenAndLockedOut : Prop :=
  (∀ s : State, s.inReset = false → s.mode.startWait = false → s.mode.evacLine.lockout = none → s.mode.evacLine.accepted = .active →
    ∃ t, exec .evacInRisingEdge s = .next t ∧
      t.mode = { s.mode with evacDemand := false, evacLine := ⟨.inactive, .inactive, some 20⟩ } ∧ KeepsAllBut [.mode] s t) ∧
  (∀ s : State, s.inReset = false → s.mode.startWait = false → s.mode.holdLine.lockout = none → s.mode.holdLine.accepted = .inactive →
    ∃ t, exec .holdInFallingEdge s = .next t ∧
      t.mode = { s.mode with holdLine := ⟨.active, .active, some 20⟩,
                             frozen := s.mode.frozen ||
                               ((decide (s.mode.mode = .standby) || decide (s.mode.mode = .quiet)) && decide (s.store.op ≠ .save)) } ∧
      KeepsAllBut [.mode] s t) ∧
  (∀ s : State, s.inReset = false → s.mode.startWait = false → s.mode.holdLine.lockout = none → s.mode.holdLine.accepted = .active →
    ∃ t, exec .holdInRisingEdge s = .next t ∧
      t.mode = { s.mode with holdLine := ⟨.inactive, .inactive, some 20⟩, frozen := false } ∧ KeepsAllBut [.mode] s t) ∧
  (∀ (s : State) (l : PanelLineName), s.inReset = false → (panelLine s l).lockout = some 0 →
    ∃ t, exec (.panelLineLockoutExpiry l) s = .next t ∧
      ((panelLine s l).raw = (panelLine s l).accepted →
        t.mode = (match l with
          | .evacIn => { s.mode with evacLine := { s.mode.evacLine with lockout := none } }
          | .holdIn => { s.mode with holdLine := { s.mode.holdLine with lockout := none } }) ∧ KeepsAllBut [.mode] s t) ∧
      ((panelLine s l).raw ≠ (panelLine s l).accepted →
        panelLine t l = ⟨(panelLine s l).raw, (panelLine s l).raw, some 20⟩ ∧
        (l = .evacIn → t.mode.evacDemand = decide ((panelLine s l).raw = .active)) ∧
        (l = .evacIn → (panelLine s l).raw = .active → s.mode.mode ≠ .maint → t.mode.mode = .evac) ∧
        (l = .holdIn → (panelLine s l).raw = .inactive → t.mode.frozen = false) ∧
        KeepsAllBut [.mode, .notices, .signs, .cadence, .captures, .solver, .layout, .store, .counters] s t)) ∧
  (∀ (s : State) (l : PanelLineName) (v : Level), (s.inReset = true ∨ s.mode.startWait = true ∨ (panelLine s l).lockout.isSome = true) →
    ∃ t, exec (.panelLineLevelChange l v) s = .next t ∧
      t.mode = (match l with
        | .evacIn => { s.mode with evacLine := { s.mode.evacLine with raw := v } }
        | .holdIn => { s.mode with holdLine := { s.mode.holdLine with raw := v } }) ∧ KeepsAllBut [.mode] s t)

/-- What a mode change reaches: MODE_CHANGED with the mode before as its detail; the presentation rule for every sign in use, each sign
evaluated, in sign index order, as it is given its desired presentation; an empty update queue at entry to MAINT; the beats restarted at entry
to ALERT or EVAC; the freeze ended at entry to ALERT, EVAC or MAINT; and a capture only at an EVAC entry by EVAC_IN. A change to the present
mode is none. The presentation rule is Table 4-3: absent in MAINT and with the selections absent; DARK face 0 in QUIET; in STANDBY and ALERT
steady for HOME and for a ROUTE that is not LEAST_HARM, else flashing; in EVAC flashing, with the tone class of the target exit for HOME at a
tone capable sign, and chasing for a ROUTE with its phase by the cost. -/
def Obligations.ModeChangesReachTheirReaders : Prop :=
  (∀ (s : State) (line : Bool), changeMode s.mode.mode line s = s) ∧
  (∀ (s : State) (m : Mode) (line : Bool), s.canonical = true → s.mode.mode ≠ m →
    (changeMode m line s).mode.mode = m ∧
    (causeRec (changeMode m line s) 5).latched = true ∧ (causeRec (changeMode m line s) 5).detail = modeCode s.mode.mode ∧
    (∀ i, i < signsInUse s → (signRt (changeMode m line s) i).desired = presentation (changeMode m line s) i) ∧
    (∀ i, signsInUse s ≤ i → signRt (changeMode m line s) i = signRt s i) ∧
    (m = .maint → (changeMode m line s).signs.forced = [] ∧ (changeMode m line s).signs.ordinary = []) ∧
    (∀ g, g = (presentAll { s with mode := { s.mode with mode := m } }).signs →
      (changeMode m line s).signs = (if m = .maint then { g with forced := [], ordinary := [] } else g)) ∧
    ((m = .alert ∨ m = .evac) → (changeMode m line s).cadence =
      (if beatRuns s then { s.cadence with nextBeat := 1, slot := some 0, timer := some s.tables.params.beatPeriod }
       else { s.cadence with nextBeat := 0 })) ∧
    ((m ≠ .alert ∧ m ≠ .evac) → (changeMode m line s).cadence = s.cadence) ∧
    (changeMode m line s).mode.frozen =
      (if m = .alert ∨ m = .evac ∨ m = .maint then false else s.mode.frozen) ∧
    (¬(m = .evac ∧ line = true) → (changeMode m line s).captures = s.captures) ∧
    KeepsAllBut [.mode, .notices, .signs, .cadence, .captures] s (changeMode m line s)) ∧
  (∀ s : State, presentAll s = (List.range (signsInUse s)).foldl
    (fun u i => evaluate i (setSignRt u i { signRt u i with desired := presentation u i })) s) ∧
  (∀ (s : State) (i : Nat), s.signs.selections = none → presentation s i = none) ∧
  (∀ (s : State) (i : Nat) (sels : List Selection) (x : Selection), s.signs.selections = some sels → sels[i]? = some x →
    (s.mode.mode = .maint → presentation s i = none) ∧
    (s.mode.mode = .quiet → presentation s i = some ⟨0, .dark, 0, 0, 0, .dark, x.tier⟩) ∧
    ((s.mode.mode = .standby ∨ s.mode.mode = .alert) → ∀ br, br = (if s.mode.mode = .standby then s.tables.params.standbyBrightness else 15) →
      (x.kind = .home → presentation s i = some ⟨x.face, .steady, 0, br, 0, .home, x.tier⟩) ∧
      (x.kind = .route → x.tier ≠ .leastHarm → presentation s i = some ⟨x.face, .steady, 0, br, 0, .route, x.tier⟩) ∧
      (x.kind = .route → x.tier = .leastHarm → presentation s i = some ⟨x.face, .flash, 0, 15, 0, .route, x.tier⟩) ∧
      (x.kind = .gap → presentation s i = some ⟨x.face, .flash, 0, 15, 0, .gap, x.tier⟩) ∧
      (x.kind = .fallback → presentation s i = some ⟨x.face, .flash, 0, 15, 0, .fallback, x.tier⟩)) ∧
    (s.mode.mode = .evac →
      (x.kind = .home → ∃ tone, presentation s i = some ⟨x.face, .flash, 0, 15, tone, .home, x.tier⟩ ∧
        ((signOf s.tables.layout i).toneCapable = false → tone = 0) ∧
        ((signOf s.tables.layout i).toneCapable = true → ∀ e, x.target = some (.exit e) → tone = (exitEntry s e).toneClass)) ∧
      (x.kind = .route →
        presentation s i = some ⟨x.face, .chase, 7 - x.cost / s.tables.params.chaseStep % 8, 15, 0, .route, x.tier⟩) ∧
      (x.kind = .gap → presentation s i = some ⟨x.face, .flash, 0, 15, 0, .gap, x.tier⟩) ∧
      (x.kind = .fallback → presentation s i = some ⟨x.face, .flash, 0, 15, 0, .fallback, x.tier⟩)))

/-- Hazard events at the mode controller: an escalation to DENSE enters EVAC outside MAINT, an escalation to SMOKE enters ALERT from QUIET and
STANDBY, and in MAINT each is a fire cause, of EVAC where to DENSE; a change wakes QUIET only by WATCH in a zone with wake on watch, moves
STANDBY to ALERT where a hazard is present and ALERT to STANDBY where none is; none of them changes anything during the start wait, and a
change changes nothing in EVAC and MAINT. -/
def Obligations.HazardEventsMoveTheMode : Prop :=
  (∀ (s : State) (x : ZoneState) (z : Nat), s.mode.startWait = true → escalationAtMode x s = s ∧ changeAtMode z x s = s) ∧
  (∀ s : State, s.mode.startWait = false → s.mode.mode ≠ .maint →
    (escalationAtMode .dense s).mode.mode = .evac ∧
    (escalationAtMode .smoke s).mode.mode = (if s.mode.mode = .evac then .evac else .alert)) ∧
  (∀ s : State, s.mode.startWait = false → s.mode.mode = .maint →
    escalationAtMode .dense s = fireCause true false s ∧ escalationAtMode .smoke s = fireCause false false s) ∧
  (∀ (s : State) (x : ZoneState) (z : Nat), s.mode.startWait = false →
    (s.mode.mode = .quiet → (changeAtMode z x s).mode.mode =
      (if x = .watch ∧ (zoneEntry s z).wakeOnWatch = true then .alert else .quiet)) ∧
    (s.mode.mode = .standby → (changeAtMode z x s).mode.mode = (if hazardPresent s then .alert else .standby)) ∧
    (s.mode.mode = .alert → (changeAtMode z x s).mode.mode = (if hazardPresent s then .alert else .standby)) ∧
    ((s.mode.mode = .evac ∨ s.mode.mode = .maint) → changeAtMode z x s = s))

/-- MODE_SET with target QUIET, STANDBY or MAINT is judged in the order of Table 6-4, changes the mode before it is answered, and every answer
carries the mode after it. A target that is no valid one is answered BAD_FIELD. -/
def Obligations.ModeSetIsJudgedInOrder : Prop :=
  (∀ (c : Instr) (row : ReqRow) (target : Mode) (e : ReqEntry) (s : State),
    ((c = .modeSetQuiet ∧ row = .modeSetQuiet ∧ target = .quiet) ∨ (c = .modeSetStandby ∧ row = .modeSetStandby ∧ target = .standby) ∨
      (c = .modeSetMaint ∧ row = .modeSetMaint ∧ target = .maint)) → Begins row e s →
    (s.mode.startWait = true → Answers c s e .busy [byte (modeCode s.mode.mode)] s) ∧
    (s.mode.startWait = false →
      (s.mode.mode = target → Answers c s e .ok [byte (modeCode s.mode.mode)] s) ∧
      (s.mode.mode ≠ target →
        ((s.mode.mode = .alert ∨ s.mode.mode = .evac) → Answers c s e .wrongMode [byte (modeCode s.mode.mode)] s) ∧
        (s.mode.mode = .maint → s.layout ≠ .active → Answers c s e .noLayout [byte (modeCode s.mode.mode)] s) ∧
        ((s.mode.mode = .quiet ∨ s.mode.mode = .standby ∨ (s.mode.mode = .maint ∧ s.layout = .active)) → target ≠ .maint →
          hazardPresent s = true → Answers c s e .hazardPresent [byte (modeCode s.mode.mode)] s) ∧
        ((s.mode.mode = .quiet ∨ s.mode.mode = .standby ∨ (s.mode.mode = .maint ∧ s.layout = .active)) →
          (target = .maint ∨ hazardPresent s = false) →
          Answers c s e .ok [byte (modeCode target)] (changeMode target false s))))) ∧
  (∀ (e : ReqEntry) (s : State), Begins .modeSetBadTarget e s →
    Answers .modeSetBadTarget s e .badField [byte (modeCode s.mode.mode)] s)

/-- MODE_SET EVAC is held during the start wait, enters EVAC outside MAINT, and is a cause of the fire path in MAINT. EVAC_CANCEL is refused
during the start wait, outside EVAC, with the EVAC demand set and with a DENSE zone; otherwise it leaves EVAC for ALERT or STANDBY. Every
answer carries the mode after it. That a HAZARD_PRESENT answer carries its reason, LINE 0 or DENSE 1, before the mode is the model's reading
(log 15). -/
def Obligations.EvacIsSetAndCancelled : Prop :=
  (∀ (e : ReqEntry) (s : State), Begins .modeSetEvac e s →
    (s.mode.startWait = true →
      Answers .modeSetEvac s e .ok [byte (modeCode s.mode.mode)] { s with mode := { s.mode with heldEvac := true } }) ∧
    (s.mode.startWait = false → s.mode.mode = .evac → Answers .modeSetEvac s e .ok [3] s) ∧
    (s.mode.startWait = false → s.mode.mode ≠ .evac → s.mode.mode ≠ .maint →
      Answers .modeSetEvac s e .ok [3] (changeMode .evac false s)) ∧
    (s.mode.startWait = false → s.mode.mode = .maint →
      Answers .modeSetEvac s e .ok [byte (modeCode (fireCause true false s).mode.mode)] (fireCause true false s))) ∧
  (∀ (e : ReqEntry) (s : State), Begins .evacCancel e s →
    (s.mode.startWait = true → Answers .evacCancel s e .busy [byte (modeCode s.mode.mode)] s) ∧
    (s.mode.startWait = false → s.mode.mode ≠ .evac → Answers .evacCancel s e .wrongMode [byte (modeCode s.mode.mode)] s) ∧
    (s.mode.startWait = false → s.mode.mode = .evac →
      (s.mode.evacDemand = true → Answers .evacCancel s e .hazardPresent [0, 3] s) ∧
      (s.mode.evacDemand = false → anyDense s = true → Answers .evacCancel s e .hazardPresent [1, 3] s) ∧
      (s.mode.evacDemand = false → anyDense s = false → hazardPresent s = true →
        Answers .evacCancel s e .ok [2] (changeMode .alert false s)) ∧
      (s.mode.evacDemand = false → anyDense s = false → hazardPresent s = false →
        Answers .evacCancel s e .ok [1] (changeMode .standby false s))))

/-- A fire cause taken in MAINT acts by the layout lifecycle: ACTIVE sets the mode and calls for a solve; EDITING places a SHOW_DEFAULT,
starts a layout-only reload and waits; NONE places a SHOW_DEFAULT, latches ROUTE_LOST with detail 1 and stays in MAINT; VALIDATING and
RELOADING wait. While a fire path waits, a further cause only raises its target and its line cause. -/
def Obligations.FirePathActsByTheLayout : Prop :=
  ∀ (s : State) (evac line : Bool), s.canonical = true → s.mode.mode = .maint →
    (s.mode.fireWaiting = true → fireCause evac line s =
      { s with mode := { s.mode with fireEvac := s.mode.fireEvac || evac, lineCause := s.mode.lineCause || line } }) ∧
    (s.mode.fireWaiting = false → s.layout = .active →
      (fireCause evac line s).mode.mode =
        (if evac = true ∨ anyDense s = true then .evac else if hazardPresent s = true then .alert else .standby) ∧
      (fireCause evac line s).mode.fireWaiting = false ∧ (fireCause evac line s).mode.lineCause = false ∧
      (fireCause evac line s).solver = (solveTrigger false s).solver ∧ (fireCause evac line s).layout = .active ∧
      (fireCause evac line s).signs.defaultSlot = s.signs.defaultSlot) ∧
    (s.mode.fireWaiting = false → s.layout = .editing →
      fireCause evac line s = { s with
        layout := .reloading
        store := { s.store with op := .layoutReload }
        signs := { s.signs with defaultSlot := addressed s || s.signs.defaultSlot }
        mode := { s.mode with fireWaiting := true, fireEvac := evac, lineCause := line } }) ∧
    (s.mode.fireWaiting = false → s.layout = .none →
      (fireCause evac line s).mode = { s.mode with fireEvac := evac, lineCause := false } ∧
      (fireCause evac line s).signs = { s.signs with defaultSlot := addressed s || s.signs.defaultSlot } ∧
      causeRec (fireCause evac line s) 2 = { causeRec s 2 with latched := true, detail := 1 } ∧
      KeepsAllBut [.mode, .notices, .signs] s (fireCause evac line s)) ∧
    (s.mode.fireWaiting = false → (s.layout = .validating ∨ s.layout = .reloading) →
      fireCause evac line s = { s with mode := { s.mode with fireWaiting := true, fireEvac := evac, lineCause := line } })

/-- EVAC is left only by EVAC_CANCEL and by POWER and PIN reset. -/
def Obligations.EvacIsLeftOnlyByCancelOrReset : Prop :=
  ∀ (c : Instr) (s : State), s.lifecycle = true → s.mode.mode = .evac → c ≠ .evacCancel → c ≠ .powerReset → c ≠ .pinReset →
    ∃ t, exec c s = .next t ∧ t.mode.mode = .evac

/-! ### The hall loop -/

/-- A telegram of the router, written header, payload and check, is read back as itself: every field at every value it can have. Nothing else
is read as a telegram: what is read as good is just what is written of a telegram with a source of 1 to 250 and at most 32 bytes of payload.
The check is the 16-bit cyclic check over header and payload, preset to all ones, each byte most significant bit first. -/
def Obligations.TelegramsAreReadAsWritten : Prop :=
  (∀ m : Telegram, 1 ≤ m.source.toNat → m.source.toNat ≤ 250 → m.payload.length ≤ 32 →
    parseTelegram (encodeTelegram m) = .good m ∧ 6 ≤ (encodeTelegram m).length ∧ (encodeTelegram m).length ≤ 38) ∧
  (∀ (bs : List Byte) (m : Telegram), parseTelegram bs = .good m →
    bs = encodeTelegram m ∧ 1 ≤ m.source.toNat ∧ m.source.toNat ≤ 250 ∧ m.payload.length ≤ 32) ∧
  (∀ m : Telegram, ∀ body, body = [m.dest, m.source, byte (classCode m.cls * 64 + (if m.shared then 32 else 0) + m.kind.toNat),
      byte m.payload.length] ++ m.payload →
    encodeTelegram m = body ++ [byte ((crc16 body).toNat / 256), byte (crc16 body).toNat]) ∧
  (crc16 [] = 0xFFFF#16 ∧ ∀ (bs : List Byte) (x : Byte), crc16 (bs ++ [x]) =
    [7, 6, 5, 4, 3, 2, 1, 0].foldl (fun (r : BitVec 16) i => if r.msb ≠ x.getLsbD i then (r <<< 1) ^^^ 0x1021#16 else r <<< 1) (crc16 bs))

/-- While Port A is DOWN nothing is received. An arrival with a bad check takes no slot, is counted as CHECK_FAIL, and where its header names
an outstanding credit one of that kind is returned; bytes that are not just a telegram of the router's are a bad check, whose header, where
they reach to it, names a credit by its class and shared flag (log 21). An arrival for whose credit none is outstanding is an overrun: it
takes no slot, is counted with its class, and returns nothing. -/
def Obligations.BadArrivalsTakeNoSlot : Prop :=
  (∀ bs : List Byte, (∀ m, parseTelegram bs ≠ .good m) →
    parseTelegram bs = .bad ((bs[2]?).map (fun h => if h.getLsbD 5 then .shared else .dedicated (classOfCode (h.toNat / 64))))) ∧
  ([0, 1, 2, 3].map classOfCode = [.haz, .sign, .mgmt, .ctl]) ∧
  ∀ (s : State) (bs : List Byte), s.inReset = false →
    (s.portA.state = .down → ∃ t, exec (.telegramArrival bs) s = .next t ∧ KeepsAllBut [] s t) ∧
    (s.portA.state ≠ .down → ∀ k, parseTelegram bs = .bad k →
      ∃ t, exec (.telegramArrival bs) s = .next t ∧ t.portA.pool = s.portA.pool ∧ t.portA.outstanding = s.portA.outstanding ∧
        t.portA.state = s.portA.state ∧
        t.portA.returns = (match k with
          | some c => if 0 < s.portA.outstanding.count c then .credit c :: s.portA.returns else s.portA.returns
          | none => s.portA.returns) ∧
        t.counters = (count .checkFail none s).counters ∧ KeepsAllBut [.portA, .counters, .notices] s t) ∧
    (s.portA.state ≠ .down → ∀ m, parseTelegram bs = .good m → s.portA.outstanding.count (creditOf m.shared m.cls) = 0 →
      ∃ t, exec (.telegramArrival bs) s = .next t ∧ t.portA.pool = s.portA.pool ∧ t.portA.outstanding = s.portA.outstanding ∧
        t.portA.returns = s.portA.returns ∧ t.portA.state = s.portA.state ∧
        t.counters = (count .overrun (some m.cls) s).counters ∧ KeepsAllBut [.portA, .counters, .notices] s t)

/-- At an address of at most 250, a good telegram with a credit outstanding and a slot free: one from the router's own or retired address is
stripped and one to the router is taken, the slot freed and the credit returned; any other is forwarded. It waits in its slot at the tail of
the forward queue, counted as QUEUED, or is cut through, counted as FORWARDED and CUT_THROUGH, under a credit taken as the arbiter takes one:
in UP_DUAL with an empty forward queue, an idle transmitter, nothing else to send (log 17) and a usable credit. So it is of every kind; of all
but a REPORT (and the router's own BEAT) the rest is said as well: a REQUEST to the router joins the request queue or is dropped where it
holds four; a STATUS to it goes to the sign scheduler, and any other kind is counted as a discarded take. Of the broadcasts that are
forwarded, a REQUEST of an accepted kind or, while addressed, an ADVERT is taken as well, after its forwarding is counted (log 36). Which free
slot is taken is the model's choice (log 27). -/
def Obligations.ArrivalsAreStrippedTakenOrForwarded : Prop :=
  (∀ (s : State) (c : TClass), cutsThrough s c = true ↔
    (s.portB.state = .upDual ∧ (∀ p, p ∈ s.portA.pool → p.waiting = false) ∧ s.forward.tx = none ∧ firstSendable s = none ∧
      usable s c = true)) ∧
  (∀ (s : State) (bs : List Byte), s.inReset = false → s.node.address ≤ 250 → s.portA.state.isUp = true →
    ∀ m, parseTelegram bs = .good m → ∀ n, arrivalSlot s m = some n →
    ((addressed s = true ∧ (isOwn s m = true ∨ isRetired s m = true ∨ m.dest.toNat = s.node.address)) →
      ∃ t, exec (.telegramArrival bs) s = .next t ∧ t.portA.pool = s.portA.pool ∧ t.portA.outstanding = s.portA.outstanding ∧
        t.portA.returns = .credit (creditOf m.shared m.cls) :: s.portA.returns ∧ t.portB = s.portB ∧ t.forward.tx = s.forward.tx ∧
        t.forward.resend = s.forward.resend ∧ t.forward.turn = s.forward.turn) ∧
    (¬(addressed s = true ∧ (isOwn s m = true ∨ isRetired s m = true ∨ m.dest.toNat = s.node.address)) →
      ∃ t, exec (.telegramArrival bs) s = .next t ∧
        t.portA.outstanding =
          s.portA.outstanding.put (creditOf m.shared m.cls) (s.portA.outstanding.count (creditOf m.shared m.cls) - 1) ∧
        t.portA.returns = s.portA.returns ∧ t.forward.resend = s.forward.resend ∧
        (cutsThrough s m.cls = false →
          t.portA.pool = s.portA.pool ++ [⟨n, m.shared, m, true⟩] ∧ t.portB = s.portB ∧ t.forward.tx = s.forward.tx ∧
          t.forward.turn = s.forward.turn) ∧
        (cutsThrough s m.cls = true →
          t.portA.pool = s.portA.pool ++ [⟨n, m.shared, m, false⟩] ∧
          t.forward.tx = some ⟨{ m with shared := decide (s.portB.credits.ded.get m.cls = 0) }, some n⟩ ∧
          t.portB = { s.portB with credits :=
            if 0 < s.portB.credits.ded.get m.cls then
              { s.portB.credits with ded := s.portB.credits.ded.set m.cls (s.portB.credits.ded.get m.cls - 1) }
            else { s.portB.credits with shared := s.portB.credits.shared - 1 } } ∧
          t.forward.turn = (if m.cls = .haz then s.forward.turn else .b) ∧ (t.forward.stalls.get m.cls).episode = false))) ∧
  (∀ (s : State) (bs : List Byte), s.inReset = false → s.node.address ≤ 250 → s.portA.state.isUp = true →
    ∀ m, parseTelegram bs = .good m → ∀ n, arrivalSlot s m = some n → m.isKind .haz 1 = false →
    (addressed s = true → isOwn s m = true → m.isKind .ctl 1 = false →
      ∃ t, exec (.telegramArrival bs) s = .next t ∧ t.portA.pool = s.portA.pool ∧ t.portA.outstanding = s.portA.outstanding ∧
        t.portA.returns = .credit (creditOf m.shared m.cls) :: s.portA.returns ∧ KeepsAllBut [.portA] s t) ∧
    (addressed s = true → isOwn s m = false → isRetired s m = false → m.dest.toNat = s.node.address → m.isKind .mgmt 1 = true →
      ∃ t, exec (.telegramArrival bs) s = .next t ∧ t.portA.pool = s.portA.pool ∧ t.portA.outstanding = s.portA.outstanding ∧
        (s.requests.queue.length < 4 →
          t.requests = { s.requests with queue := s.requests.queue ++ [⟨m.source, false, m.payload⟩] } ∧
          KeepsAllBut [.portA, .requests] s t) ∧
        (4 ≤ s.requests.queue.length →
          t.counters = (count .requestDropped none s).counters ∧ KeepsAllBut [.portA, .counters, .notices] s t)) ∧
    ((addressed s = true → isOwn s m = false ∧ isRetired s m = false ∧ m.dest.toNat ≠ s.node.address) → m.dest.toNat ≠ 255 →
      ∃ t, exec (.telegramArrival bs) s = .next t ∧
        t.portA.outstanding =
          s.portA.outstanding.put (creditOf m.shared m.cls) (s.portA.outstanding.count (creditOf m.shared m.cls) - 1) ∧
        t.portA.returns = s.portA.returns ∧
        (cutsThrough s m.cls = false →
          t.portA.pool = s.portA.pool ++ [⟨n, m.shared, m, true⟩] ∧
          t.counters = (count .queued (some m.cls) s).counters ∧ KeepsAllBut [.portA, .counters, .notices] s t) ∧
        (cutsThrough s m.cls = true →
          t.portA.pool = s.portA.pool ++ [⟨n, m.shared, m, false⟩] ∧
          (∃ x, t.forward.tx = some x ∧ x.slot = some n ∧ x.telegram = { m with shared := x.telegram.shared }) ∧
          t.counters = (count .cutThrough (some m.cls) (count .forwarded (some m.cls) s)).counters ∧
          KeepsAllBut [.portA, .portB, .forward, .counters, .notices] s t))) ∧
  (∀ (s : State) (bs : List Byte), s.inReset = false → s.node.address ≤ 250 → s.portA.state.isUp = true →
    ∀ m, parseTelegram bs = .good m → ∀ n, arrivalSlot s m = some n → m.isKind .haz 1 = false →
    (addressed s = true → isOwn s m = false → ∀ r, s.node.retired = some r → m.source.toNat = r.address →
      ∃ t, exec (.telegramArrival bs) s = .next t ∧ t.portA.pool = s.portA.pool ∧ t.portA.outstanding = s.portA.outstanding ∧
        t.portA.returns = .credit (creditOf m.shared m.cls) :: s.portA.returns ∧ KeepsAllBut [.portA] s t) ∧
    (isOwn s m = false → isRetired s m = false → addressed s = true → m.dest.toNat = s.node.address → m.isKind .mgmt 1 = false →
      ∃ t, exec (.telegramArrival bs) s = .next t ∧ t.portA.pool = s.portA.pool ∧ t.portA.outstanding = s.portA.outstanding ∧
        t.portA.returns = .credit (creditOf m.shared m.cls) :: s.portA.returns ∧
        (m.isKind .sign 3 = true → KeepsAllBut [.portA] (takeStatus m s) t) ∧
        (m.isKind .sign 3 = false →
          t.node = { s.node with discardedTakes := min (s.node.discardedTakes + 1) 65535 } ∧ KeepsAllBut [.portA, .node] s t)) ∧
    ((addressed s = true → isOwn s m = false ∧ isRetired s m = false) → m.dest.toNat = 255 →
      ∀ f, f = (if cutsThrough s m.cls = true then count .cutThrough (some m.cls) (count .forwarded (some m.cls) s)
        else count .queued (some m.cls) s) →
      ∃ t, exec (.telegramArrival bs) s = .next t ∧
        (cutsThrough s m.cls = false → t.portA.pool = s.portA.pool ++ [⟨n, m.shared, m, true⟩]) ∧
        (cutsThrough s m.cls = true → t.portA.pool = s.portA.pool ++ [⟨n, m.shared, m, false⟩] ∧
          ∃ x, t.forward.tx = some x ∧ x.slot = some n ∧ x.telegram = { m with shared := x.telegram.shared }) ∧
        (m.isKind .mgmt 1 = true → broadcastAccepted (addressed s) m.payload = true →
          (s.requests.queue.length < 4 →
            t.requests = { s.requests with queue := s.requests.queue ++ [⟨m.source, true, m.payload⟩] } ∧ t.counters = f.counters) ∧
          (4 ≤ s.requests.queue.length → t.requests = s.requests ∧ t.counters = (count .requestDropped none f).counters) ∧
          KeepsAllBut [.portA, .portB, .forward, .requests, .counters, .notices] s t) ∧
        (m.isKind .ctl 2 = true → addressed s = true →
          t.boundaries = (takeAdvert m s).boundaries ∧ t.solver = (takeAdvert m s).solver ∧
          t.counters = (takeAdvert m f).counters ∧
          KeepsAllBut [.portA, .portB, .forward, .boundaries, .solver, .counters, .notices] s t) ∧
        (¬(m.isKind .mgmt 1 = true ∧ broadcastAccepted (addressed s) m.payload = true) →
          ¬(m.isKind .ctl 2 = true ∧ addressed s = true) →
          t.counters = f.counters ∧ KeepsAllBut [.portA, .portB, .forward, .counters, .notices] s t)))

/-- An accepted REPORT, whatever its destination, sets its detector's last condition, marks it heard, restarts its silence timer, clears
SILENT and treats FAULT as the table of R30; its zone's STALE flag clears and the zone is recomputed: what an ALARM or a PRE_ALARM latches,
starts, escalates and moves is that recomputation's. It counts REPORTS_TAKEN, after the events of its forwarding (log 36). A condition code
that is none of the four raises the ignored count only, and a REPORT that is not tabled or has fewer than two bytes of payload leaves the
hazard map as it was; none of these counts REPORTS_TAKEN. -/
def Obligations.ReportsAreSnooped : Prop :=
  ∀ (s : State) (bs : List Byte), s.canonical = true → s.inReset = false → s.node.address ≤ 250 → s.portA.state ≠ .down →
    ∀ m, parseTelegram bs = .good m → ∀ n, arrivalSlot s m = some n → m.isKind .haz 1 = true →
    ∀ passed, passed = (if addressed s = true ∧ (isOwn s m = true ∨ isRetired s m = true ∨ m.dest.toNat = s.node.address) then s
      else if cutsThrough s .haz = true then count .cutThrough (some .haz) (count .forwarded (some .haz) s)
      else count .queued (some .haz) s) →
    (m.payload.length < 2 →
      ∃ t, exec (.telegramArrival bs) s = .next t ∧ t.hazard = s.hazard ∧ t.counters = passed.counters ∧
        KeepsAllBut [.portA, .portB, .forward, .node, .notices, .counters] s t) ∧
    (∀ ch code rest, m.payload = ch :: code :: rest →
      (∀ i, ch.toNat ≤ 3 → detectorWith s m.source.toNat ch.toNat = some i → ∀ c, conditionOfCode code.toNat = some c →
        ∀ r : DetectorRt, r = ⟨c, true, some (s.tables.params.silenceTime * 1000), false,
             (match c with
              | .fault => true
              | .normal => (zoneEntry s (detectorEntry s i).zone).faultLatch && (detectorRt s i).fault
              | _ => (detectorRt s i).fault), (detectorRt s i).ignored⟩ →
        ∀ z, z = (detectorEntry s i).zone →
        ∀ u, u = setZoneRt (setDetectorRt s i r) z { zoneRt s z with stale := false } →
        ∃ t, exec (.telegramArrival bs) s = .next t ∧ detectorRt t i = r ∧ (∀ j, j ≠ i → detectorRt t j = detectorRt s j) ∧
          (zoneRt t z).stale = false ∧ (∀ y, y ≠ z → zoneRt t y = zoneRt s y) ∧
          t.hazard = (recompute z u).hazard ∧ t.mode = (recompute z u).mode ∧ t.solver = (recompute z u).solver ∧
          t.counters = (recompute z { u with counters := (count .reportsTaken none passed).counters }).counters ∧
          (isEscalation (zoneState s z) (zoneState t z) = true → (causeRec t 1).latched = true ∧ (causeRec t 1).detail = z) ∧
          (isEscalation (zoneState s z) (zoneState t z) = false → causeRec t 1 = causeRec s 1) ∧
          (c = .fault → (detectorRt s i).fault = false → (causeRec t 7).latched = true ∧ (causeRec t 7).detail = i) ∧
          KeepsAllBut [.portA, .portB, .forward, .node, .hazard, .notices, .solver, .mode, .signs, .cadence, .captures, .layout, .store,
            .counters] s t) ∧
      (∀ i : Nat, ch.toNat ≤ 3 → detectorWith s m.source.toNat ch.toNat = some i → conditionOfCode code.toNat = none →
        ∃ t, exec (.telegramArrival bs) s = .next t ∧
          detectorRt t i = { detectorRt s i with ignored := min ((detectorRt s i).ignored + 1) 255 } ∧
          (∀ j, j ≠ i → detectorRt t j = detectorRt s j) ∧ t.hazard.zones = s.hazard.zones ∧ t.hazard.exits = s.hazard.exits ∧
          t.counters = passed.counters ∧ KeepsAllBut [.portA, .portB, .forward, .node, .hazard, .notices, .counters] s t) ∧
      ((3 < ch.toNat ∨ detectorWith s m.source.toNat ch.toNat = none) →
        ∃ t, exec (.telegramArrival bs) s = .next t ∧ t.hazard = s.hazard ∧ t.counters = passed.counters ∧
          KeepsAllBut [.portA, .portB, .forward, .node, .notices, .counters] s t))

/-- The Port A lanes: activity on a lane in DOWN starts its restore wait; a RESTORING lane that falls silent goes DOWN again; a restore timer
that expires brings the lane UP; a lane in UP that falls silent goes DOWN, latches LOOP_DEGRADED, and leaves the port in UP_SINGLE with the
hazard map untouched where the other lane stays UP. The other lane is never changed. -/
def Obligations.PortALanesFollowActivity : Prop :=
  ∀ (s : State) (l o : Lane), s.canonical = true → s.inReset = false → o ≠ l →
    ((s.portA.lane l).state = .down →
      ∃ t, exec (.laneActivityAppears l) s = .next t ∧
        t.portA.lane l = { s.portA.lane l with state := .restoring, restore := some s.tables.params.laneRestoreTime } ∧
        t.portA.lane o = s.portA.lane o ∧ t.portA.state = s.portA.state ∧ t.portA.outstanding = s.portA.outstanding ∧
        t.portA.pool = s.portA.pool ∧ KeepsAllBut [.portA] s t) ∧
    ((s.portA.lane l).state = .restoring → ∀ partly,
      ∃ t, exec (.laneLossTimeout l partly) s = .next t ∧
        t.portA.lane l = { s.portA.lane l with state := .down, restore := none } ∧ t.portA.lane o = s.portA.lane o ∧
        t.portA.state = s.portA.state ∧ KeepsAllBut [.portA] s t) ∧
    ((s.portA.lane l).state = .restoring → (s.portA.lane l).restore = some 0 → s.portA.state.isUp = true →
      ∃ t, exec (.laneRestoreExpiry l) s = .next t ∧ (t.portA.lane l).state = .up ∧ (t.portA.lane l).restore = none ∧
        t.portA.lane o = s.portA.lane o ∧ t.portA.state = (if (s.portA.lane o).isUp then .upDual else .upSingle) ∧
        t.portA.outstanding = s.portA.outstanding ∧ t.portA.pool = s.portA.pool ∧ KeepsAllBut [.portA] s t) ∧
    ((s.portA.lane l).state = .up → (s.portA.lane o).state = .up → s.portA.state.isUp = true → ∀ partly,
      ∃ t, exec (.laneLossTimeout l partly) s = .next t ∧ (t.portA.lane l).state = .down ∧ t.portA.lane o = s.portA.lane o ∧
        t.portA.state = .upSingle ∧ t.portA.outstanding = s.portA.outstanding ∧ t.portA.pool = s.portA.pool ∧
        (causeRec t 3).latched = true ∧ (causeRec t 3).detail = 0 ∧
        t.counters = (if partly then (count .checkFail none s).counters else s.counters) ∧
        KeepsAllBut [.portA, .notices, .counters] s t)

/-- Port A trains when a lane becomes UP outside the up states, and when a training request counts: unused credits are void, the grant equals
the free slots of each kind (2, 2, 2, 2 and 8 for an empty pool), the pool is kept, the port is up by its lanes, and the silence timer of
every detector in use restarts. No zone changes. That the command says whether idle fill was seen is the model's choice (log 9), and so is
that a telegram partly received at a training request counts nothing (log 51). -/
def Obligations.TrainingGrantsTheFreeSlots : Prop :=
  freeSlots [] = ⟨⟨2, 2, 2, 2⟩, 8⟩ ∧
  (∀ (s : State) (l o : Lane), s.canonical = true → s.inReset = false → o ≠ l → (s.portA.lane l).state = .restoring →
    (s.portA.lane l).restore = some 0 → s.portA.state.isUp = false →
    ∃ t, exec (.laneRestoreExpiry l) s = .next t ∧ (t.portA.lane l).state = .up ∧
      t.portA.state = (if (s.portA.lane o).isUp then .upDual else .upSingle) ∧
      t.portA.outstanding = freeSlots s.portA.pool ∧ t.portA.returns = .grant (freeSlots s.portA.pool) :: s.portA.returns ∧
      t.portA.pool = s.portA.pool ∧ t.hazard.zones = s.hazard.zones ∧ t.hazard.exits = s.hazard.exits ∧
      (∀ i, i < 256 → detectorRt t i = (if (detectorEntry s i).inUse then
        { detectorRt s i with silence := some (s.tables.params.silenceTime * 1000) } else detectorRt s i)) ∧
      KeepsAllBut [.portA, .hazard] s t) ∧
  (∀ (s : State) (l : Lane) (idle : Bool), s.canonical = true → s.inReset = false → s.portA.state.isUp = true →
    (s.portA.lane l).isUp = true →
    (((s.portA.lane l).fillSeen = true ∨ idle = true) →
      ∃ t, exec (.trainingRequestSeen l idle) s = .next t ∧ t.portA.state = upStateOf s.portA.lane0.isUp s.portA.lane1.isUp ∧
        t.portA.outstanding = freeSlots s.portA.pool ∧ t.portA.returns = .grant (freeSlots s.portA.pool) :: s.portA.returns ∧
        t.portA.pool = s.portA.pool ∧ t.hazard.zones = s.hazard.zones ∧ t.hazard.exits = s.hazard.exits ∧
        (∀ i, i < 256 → detectorRt t i = (if (detectorEntry s i).inUse then
          { detectorRt s i with silence := some (s.tables.params.silenceTime * 1000) } else detectorRt s i)) ∧
        KeepsAllBut [.portA, .hazard] s t) ∧
    (((s.portA.lane l).fillSeen = false ∧ idle = false) →
      ∃ t, exec (.trainingRequestSeen l idle) s = .next t ∧ KeepsAllBut [] s t))

/-- The loss of the last lane in UP takes an up Port A DOWN: unused credits are void and the pool is kept, LOOP_DEGRADED is latched with
detail 1, every detector's silence timer stops with its flags and last condition kept, every zone not latched becomes STALE beneath, and the
latched zones keep their records. That detail 1 stands over the lane's detail 0 of the same step is the model's reading (log 24). -/
def Obligations.PortADownIsLoopLoss : Prop :=
  ∀ (s : State) (l o : Lane) (partly : Bool), s.canonical = true → s.inReset = false → o ≠ l → (s.portA.lane l).state = .up →
    (s.portA.lane o).state ≠ .up → s.portA.state.isUp = true →
    ∃ t, exec (.laneLossTimeout l partly) s = .next t ∧ t.portA.state = .down ∧ (t.portA.lane l).state = .down ∧
      t.portA.outstanding = Credits.zero ∧ t.portA.pool = s.portA.pool ∧ t.portA.returns = s.portA.returns ∧
      (causeRec t 3).latched = true ∧ (causeRec t 3).detail = 1 ∧
      (∀ i, i < 256 → detectorRt t i = { detectorRt s i with silence := none }) ∧
      (∀ z, z < 64 → zoneLatched s z = true → zoneRt t z = zoneRt s z) ∧
      (∀ z, z < 64 → zoneLatched s z = false → (zoneRt t z).stale = true ∧ (zoneRt t z).isolate = (zoneRt s z).isolate) ∧
      KeepsAllBut [.portA, .hazard, .notices, .solver, .mode, .signs, .cadence, .captures, .layout, .store, .counters] s t

/-- Port B follows the lane status and the grants. A report with no lane UP, which silence of the return lane equals, sends an up port DOWN:
credits 0, LOOP_DEGRADED with detail 3, a cut-off own telegram kept for resending. A lane report while up moves it between UP_DUAL and
UP_SINGLE; a lane that it takes from UP to DOWN latches LOOP_DEGRADED with detail 2, in whatever state the port stays. A grant sets the
counts: at once while up or with a lane UP, else it is held until a lane is UP. A credit return raises its count by one while the port is up
and the count below 255. That detail 3 stands over the lane's detail 2 of the same step is the model's reading (log 24); that the slot keeps
what is cut off last, and what is cut off while unaddressed, is its choice (logs 40 and 39), and so is that a telegram cut off counts no
QUEUED (log 52). -/
def Obligations.PortBFollowsStatusAndGrants : Prop :=
  (∀ (c : Instr) (s : State), (c = .returnLaneSilence ∨ c = .laneStatusReport false false) → s.canonical = true → s.inReset = false →
    s.portB.state.isUp = true →
    ∃ t, exec c s = .next t ∧ t.portB = { PortB.reset with state := .down } ∧
      (causeRec t 3).latched = true ∧ (causeRec t 3).detail = 3 ∧ t.forward.tx = none ∧
      (∀ x, s.forward.tx = some x → x.slot = none → t.forward.resend = some x.telegram ∧ t.portA = s.portA) ∧
      (∀ x, s.forward.tx = some x → ∀ n, x.slot = some n → t.forward.resend = s.forward.resend ∧
        t.portA.pool = s.portA.pool.map (fun p => if p.index = n then { p with waiting := true } else p)) ∧
      (s.forward.tx = none → t.forward.resend = s.forward.resend ∧ t.portA = s.portA) ∧
      KeepsAllBut [.portA, .portB, .forward, .notices] s t) ∧
  (∀ (s : State) (a b : Bool), s.inReset = false → s.portB.state.isUp = true → (a || b) = true →
    ∃ t, exec (.laneStatusReport a b) s = .next t ∧
      t.portB = { s.portB with lane0Up := a, lane1Up := b, state := if a && b then .upDual else .upSingle } ∧
      (s.canonical = true → causeRec t 3 =
        (if (s.portB.lane0Up = true ∧ a = false) ∨ (s.portB.lane1Up = true ∧ b = false)
         then { causeRec s 3 with latched := true, detail := 2 } else causeRec s 3)) ∧
      KeepsAllBut [.portB, .notices] s t) ∧
  (∀ (s : State) (a b : Bool), s.inReset = false → s.portB.state.isUp = false →
    ∃ t, exec (.laneStatusReport a b) s = .next t ∧
      t.portB = (match s.portB.heldGrant with
        | none => { s.portB with lane0Up := a, lane1Up := b }
        | some g => if a || b then ⟨a, b, if a && b then .upDual else .upSingle, g, none⟩
                    else { s.portB with lane0Up := a, lane1Up := b }) ∧
      (s.canonical = true → causeRec t 3 =
        (if (s.portB.lane0Up = true ∧ a = false) ∨ (s.portB.lane1Up = true ∧ b = false)
         then { causeRec s 3 with latched := true, detail := 2 } else causeRec s 3)) ∧
      KeepsAllBut [.portB, .notices] s t) ∧
  (∀ s : State, exec .returnLaneSilence s = exec (.laneStatusReport false false) s) ∧
  (∀ (s : State) (h g m c x : Byte), s.inReset = false →
    ∃ t, exec (.creditGrant h g m c x) s = .next t ∧
      t.portB = (if s.portB.state.isUp then { s.portB with credits := ⟨⟨h.toNat, g.toNat, m.toNat, c.toNat⟩, x.toNat⟩ }
        else if s.portB.lane0Up || s.portB.lane1Up then
          { s.portB with state := if s.portB.lane0Up && s.portB.lane1Up then .upDual else .upSingle,
                         credits := ⟨⟨h.toNat, g.toNat, m.toNat, c.toNat⟩, x.toNat⟩, heldGrant := none }
        else { s.portB with heldGrant := some ⟨⟨h.toNat, g.toNat, m.toNat, c.toNat⟩, x.toNat⟩ }) ∧
      KeepsAllBut [.portB] s t) ∧
  (∀ (s : State) (k : CreditKind), s.inReset = false →
    ∃ t, exec (.creditReturn k) s = .next t ∧
      t.portB = (if s.portB.state.isUp = true ∧ s.portB.credits.count k < 255 then
        { s.portB with credits := s.portB.credits.put k (s.portB.credits.count k + 1) } else s.portB) ∧
      KeepsAllBut [.portB] s t)

/-- The arbiter takes the first sendable item under one credit of its class, dedicated where one is held and else shared, and the telegram
sent carries the shared flag of that credit; an open stall episode of the class closes. What is sent of a forwarded item is the telegram of
its pool slot, which no longer waits while the rest of the pool stays, and FORWARDED is counted with its class; what is sent from the resend
slot is the telegram kept there, and its owner does nothing again. With the transmitter busy, Port B not up or nothing sendable, it takes
nothing. The order: the resend slot, the oldest forwarded HAZ telegram, the own BEAT, the sign scheduler's offer, then the side whose turn it
is and the other side; an item without a usable credit is passed over. Side (a) is the oldest forwarded telegram of another class with a
usable credit, side (b) the own NOTICE, RESPONSE or ADVERT; what is taken at one side passes the turn to the other. The sign scheduler offers
a SHOW_DEFAULT first, then, outside MAINT and the freeze, the head of the update queue, then a refresh; nothing is offered while unaddressed.
Model's choices: the resend slot keeps what may not be sent now, a SHOW in MAINT or in the freeze (log 38) and anything while unaddressed (log
39), and offers an ADVERT in every layout state (log 44) and a NOTICE whatever the panel address has become (log 47). -/
def Obligations.ArbiterTakesTheFirstSendable : Prop :=
  (∀ (s : State) (ch : Choice), s.inReset = false → s.forward.tx = none → s.portB.state.isUp = true → firstSendable s = some ch →
    (∀ i, ch = .sign (.head i) → (signRt s i).desired.isSome = true) →
    usable s (choiceClass ch) = true ∧
    ∃ t x, exec .arbiterTake s = .next t ∧ t.forward.tx = some x ∧ x.telegram.cls = choiceClass ch ∧
      x.telegram.shared = decide (s.portB.credits.ded.get (choiceClass ch) = 0) ∧
      t.portB = { s.portB with credits :=
        if 0 < s.portB.credits.ded.get (choiceClass ch) then
          { s.portB.credits with
            ded := s.portB.credits.ded.set (choiceClass ch) (s.portB.credits.ded.get (choiceClass ch) - 1) }
        else { s.portB.credits with shared := s.portB.credits.shared - 1 } } ∧
      (t.forward.stalls.get (choiceClass ch)).episode = false ∧
      ((∀ m, ch ≠ .resend m) → t.forward.resend = s.forward.resend) ∧
      (∀ m, ch = .resend m → t.forward.resend = none ∧ x.telegram = { m with shared := x.telegram.shared } ∧
        KeepsAllBut [.portB, .forward] s t) ∧
      (∀ p, ch = .forwarded p → x.slot = some p.index ∧ x.telegram = { p.telegram with shared := x.telegram.shared } ∧
        t.portA = { s.portA with pool := s.portA.pool.map (fun q => if q.index = p.index then { q with waiting := false } else q) } ∧
        t.counters = (count .forwarded (some p.telegram.cls) s).counters ∧
        KeepsAllBut [.portA, .portB, .forward, .counters, .notices] s t) ∧
      ((∀ p, ch ≠ .forwarded p) → t.portA = s.portA ∧ x.slot = none) ∧
      ((∀ m, ch ≠ .resend m) → (∀ p, ch ≠ .forwarded p) → x.telegram.source = byte s.node.address) ∧
      t.forward.turn = (match ch with
        | .resend _ => s.forward.turn
        | .forwarded p => if p.telegram.cls = .haz then s.forward.turn else .b
        | .beat _ => s.forward.turn
        | .sign _ => s.forward.turn
        | .notice _ => .a
        | .response _ => .a
        | .advert _ => .a) ∧
      KeepsAllBut [.portA, .portB, .forward, .cadence, .signs, .boundaries, .requests, .notices, .counters] s t) ∧
  (∀ s : State, s.inReset = false → (s.forward.tx.isSome = true ∨ s.portB.state.isUp = false ∨ firstSendable s = none) →
    ∃ t, exec .arbiterTake s = .next t ∧ KeepsAllBut [] s t ∧ t.portB = s.portB) ∧
  (∀ (s : State) (m : Telegram), resendOffer s = some m ↔
    (s.forward.resend = some m ∧ addressed s = true ∧
      ¬(m.isKind .sign 1 = true ∧ (s.mode.mode = .maint ∨ s.mode.frozen = true)))) ∧
  (∀ (s : State) (m : Telegram), resendOffer s = some m → usable s m.cls = true → firstSendable s = some (.resend m)) ∧
  (∀ (s : State) (p : PoolSlot), (∀ m, resendOffer s = some m → usable s m.cls = false) → usable s .haz = true →
    (forwardQueue s).find? (fun q => decide (q.telegram.cls = .haz)) = some p → firstSendable s = some (.forwarded p)) ∧
  (∀ s : State, (∀ m, resendOffer s = some m → usable s m.cls = false) →
    (usable s .haz = false ∨ ∀ q, q ∈ forwardQueue s → q.telegram.cls ≠ .haz) →
    (∀ n, addressed s = true → s.cadence.slot = some n → usable s .ctl = true → firstSendable s = some (.beat n)) ∧
    ((addressed s = false ∨ s.cadence.slot = none ∨ usable s .ctl = false) →
      (∀ o, signOffer s = some o → usable s .sign = true → firstSendable s = some (.sign o)) ∧
      ((signOffer s = none ∨ usable s .sign = false) →
        firstSendable s = (match s.forward.turn with
          | .a => (sideA s).or (sideB s)
          | .b => (sideB s).or (sideA s))))) ∧
  (∀ s : State, sideA s =
    ((s.portA.pool.filter (fun p => p.waiting)).find? (fun p => decide (p.telegram.cls ≠ .haz) && usable s p.telegram.cls)).map
      Choice.forwarded) ∧
  (∀ s : State,
    (∀ n, usable s .mgmt = true → noticeOffer s = some n → sideB s = some (.notice n)) ∧
    (∀ r, usable s .mgmt = true → noticeOffer s = none → addressed s = true → s.requests.slot = some r → sideB s = some (.response r)) ∧
    ((usable s .mgmt = false ∨ (noticeOffer s = none ∧ (addressed s = false ∨ s.requests.slot = none))) →
      sideB s = (if usable s .ctl = true ∧ addressed s = true
        then ([0, 1, 2, 3, 4, 5, 6, 7].find? (fun b => (boundaryRt s b).due)).map Choice.advert else none))) ∧
  (∀ s : State,
    (addressed s = false → signOffer s = none) ∧
    (addressed s = true → s.signs.defaultSlot = true → signOffer s = some .showDefault) ∧
    (addressed s = true → s.signs.defaultSlot = false →
      ((s.mode.mode = .maint ∨ s.mode.frozen = true ∨ s.layout ≠ .active) → signOffer s = none) ∧
      (s.mode.mode ≠ .maint → s.mode.frozen = false → s.layout = .active →
        (∀ i q, s.signs.forced ++ s.signs.ordinary = i :: q → signOffer s = some (.head i)) ∧
        (s.signs.forced ++ s.signs.ordinary = [] → s.signs.refreshDue = false → signOffer s = none) ∧
        (s.signs.forced ++ s.signs.ordinary = [] → s.signs.refreshDue = true →
          signOffer s = ((((List.range (signsInUse s)).map (fun k => (s.signs.refreshPtr + k) % signsInUse s)).find?
            (fun i => (signRt s i).commanded.isSome)).map SignOffer.refresh)))))

/-- What the owner of a telegram does when the arbiter takes it, and what the telegram carries: a BEAT, with its number, joins the round check
list with the round limit, the oldest of ten expiring first; a SHOW from the update queue leaves the queue, becomes the commanded
presentation, clears HELD, starts the confirm timer and, where it changes the face, the hold timer; a NOTICE, with cause, detail, mode,
generation and the latches, clears its latch, keeps the detail and starts the spacing timer; a RESPONSE empties its slot and, unless it is a
completion response, takes its entry from the queue; an ADVERT, with boundary id, cost and tier, leaves the due set and becomes the last
advertised. -/
def Obligations.OwnersActAtTheTake : Prop :=
  ∀ s : State, s.canonical = true → s.inReset = false → s.forward.tx = none → s.portB.state.isUp = true →
    (∀ n, firstSendable s = some (.beat n) → s.cadence.round.length < 10 →
      ∃ t, exec .arbiterTake s = .next t ∧ t.cadence.slot = none ∧
        t.cadence.round = s.cadence.round ++ [⟨n, some s.tables.params.roundLimit⟩] ∧
        (∃ x, t.forward.tx = some x ∧ x.telegram = ⟨255, byte s.node.address, .ctl, x.telegram.shared, 1, [byte n.val]⟩) ∧
        KeepsAllBut [.portB, .forward, .cadence] s t) ∧
    (∀ n, firstSendable s = some (.beat n) → 10 ≤ s.cadence.round.length →
      ∃ t, exec .arbiterTake s = .next t ∧ t.cadence.slot = none ∧
        t.cadence.round = s.cadence.round.tail ++ [⟨n, some s.tables.params.roundLimit⟩] ∧
        t.cadence.missCount = min (s.cadence.missCount + 1) 3 ∧
        t.cadence.loopOpen = (s.cadence.loopOpen || decide (2 ≤ s.cadence.missCount)) ∧ t.cadence.lateBeats = s.cadence.lateBeats ∧
        t.counters = (count .beatLost none s).counters ∧
        (2 ≤ s.cadence.missCount → s.cadence.loopOpen = false → (causeRec t 3).latched = true ∧ (causeRec t 3).detail = 5) ∧
        (s.cadence.missCount < 2 ∨ s.cadence.loopOpen = true → causeRec t 3 = causeRec s 3) ∧
        (∃ x, t.forward.tx = some x ∧ x.telegram = ⟨255, byte s.node.address, .ctl, x.telegram.shared, 1, [byte n.val]⟩) ∧
        KeepsAllBut [.portB, .forward, .cadence, .counters, .notices] s t) ∧
    (∀ i, firstSendable s = some (.sign (.head i)) → ∀ d, (signRt s i).desired = some d →
      ∃ t, exec .arbiterTake s = .next t ∧ i ∉ t.signs.forced ∧ i ∉ t.signs.ordinary ∧
        signRt t i = { signRt s i with
          commanded := some d, held := false, confirm := some s.tables.params.confirmTime
          state := (if (signRt s i).state = .faulted then .faulted else .awaiting)
          hold := (if d.face ≠ commandedFace (signRt s i).commanded then some (s.tables.params.holdTime * 1000)
                   else (signRt s i).hold) } ∧
        (∀ j, j ≠ i → signRt t j = signRt s j) ∧ t.counters = (count .showSent none s).counters ∧
        (∃ x, t.forward.tx = some x ∧ x.telegram.dest = byte (signOf s.tables.layout i).address ∧ x.telegram.kind = 1 ∧
          x.telegram.payload = showPayload (signOf s.tables.layout i).unit d) ∧
        KeepsAllBut [.portB, .forward, .signs, .counters, .notices] s t) ∧
    (∀ n, firstSendable s = some (.notice n) →
      ∃ t, exec .arbiterTake s = .next t ∧ causeRec t n = { causeRec s n with latched := false } ∧
        (∀ k, k ≠ n → causeRec t k = causeRec s k) ∧ t.notices.spacing = some s.tables.params.noticeSpacing ∧
        t.notices.master = s.notices.master ∧
        (∃ x, t.forward.tx = some x ∧ x.telegram = ⟨byte s.tables.params.panelAddress, byte s.node.address, .mgmt, x.telegram.shared, 3,
          [byte n, byte (causeRec s n).detail, byte (modeCode s.mode.mode)] ++ num2 s.solver.generation.toNat ++ num2 (latchSet s)⟩) ∧
        (∀ k, k < 13 → (latchSet s).testBit k = (causeRec s (k + 1)).latched) ∧
        KeepsAllBut [.portB, .forward, .notices] s t) ∧
    (∀ r, firstSendable s = some (.response r) →
      ∃ t, exec .arbiterTake s = .next t ∧
        (∃ x, t.forward.tx = some x ∧ x.telegram = ⟨r.dest, byte s.node.address, .mgmt, x.telegram.shared, 2, r.payload⟩) ∧
        t.requests = { s.requests with slot := none, queue := if r.completion then s.requests.queue else s.requests.queue.tail } ∧
        KeepsAllBut [.portB, .forward, .requests] s t) ∧
    (∀ b, firstSendable s = some (.advert b) →
      ∃ t, exec .arbiterTake s = .next t ∧
        boundaryRt t b = { boundaryRt s b with due := false, last := (boundaryRt s b).computed } ∧
        (∀ a, (boundaryRt s b).computed = some a → ∃ x, t.forward.tx = some x ∧
          x.telegram = ⟨255, byte s.node.address, .ctl, x.telegram.shared, 2,
            byte (boundaryOf s.tables.layout b).id :: num2 a.cost ++ [byte (match a.tier with | .safe => 0 | .leastHarm => 1)]⟩) ∧
        (∀ k, k ≠ b → boundaryRt t k = boundaryRt s k) ∧ KeepsAllBut [.portB, .forward, .boundaries] s t)

/-- A transmission that completes leaves the transmitter idle. An own telegram's ends there; a forwarded one's frees its pool slot and, while
Port A is up, returns one credit of the slot's kind upstream. -/
def Obligations.TransmissionFreesItsSlot : Prop :=
  ∀ s : State, s.inReset = false → ∀ x, s.forward.tx = some x →
    (x.slot = none →
      ∃ t, exec .transmissionComplete s = .next t ∧ t.forward.tx = none ∧ t.forward.resend = s.forward.resend ∧
        t.forward.turn = s.forward.turn ∧ KeepsAllBut [.forward] s t) ∧
    (∀ n, x.slot = some n → ∀ p, s.portA.pool.find? (fun q => decide (q.index = n)) = some p →
      ∃ t, exec .transmissionComplete s = .next t ∧ t.forward.tx = none ∧ t.forward.resend = s.forward.resend ∧
        t.forward.turn = s.forward.turn ∧ t.portA.pool = s.portA.pool.filter (fun q => decide (q.index ≠ n)) ∧
        t.portA.state = s.portA.state ∧ t.portA.lane0 = s.portA.lane0 ∧ t.portA.lane1 = s.portA.lane1 ∧
        (s.portA.state.isUp = true →
          t.portA.outstanding = s.portA.outstanding.put (creditOf p.sharedSlot p.telegram.cls)
            (s.portA.outstanding.count (creditOf p.sharedSlot p.telegram.cls) + 1) ∧
          t.portA.returns = .credit (creditOf p.sharedSlot p.telegram.cls) :: s.portA.returns) ∧
        (s.portA.state.isUp = false → t.portA.outstanding = s.portA.outstanding ∧ t.portA.returns = s.portA.returns) ∧
        KeepsAllBut [.portA, .forward] s t)

/-- ADDRESS_TAKE reads the straps and answers the address they give. The address held changes nothing; another one retires the old address for
2 s and empties the round check list, the miss count and LOOP_OPEN kept; a router that becomes unaddressed drops its SHOW_DEFAULT, its resend
slot and its due adverts. The drop of the retired address, its 2 s run out, empties it and does nothing else. -/
def Obligations.AddressTakeReadsTheStraps : Prop :=
  (∀ (e : ReqEntry) (s : State) (straps : Byte), s.canonical = true → Begins .addressTake e s →
    ∃ u, Answers (.addressTake straps) s e .ok [byte (strapAddress straps)] u ∧
      strapAddress straps = (if 1 ≤ straps.toNat ∧ straps.toNat ≤ 250 then straps.toNat else 0) ∧
      u.node.straps = straps ∧ u.node.address = strapAddress straps ∧ u.node.discardedTakes = s.node.discardedTakes ∧
      (s.node.address = strapAddress straps → u.node.retired = s.node.retired ∧ KeepsAllBut [.node] s u) ∧
      (s.node.address ≠ strapAddress straps →
        u.node.retired = (if s.node.address = 0 then none else some ⟨s.node.address, some 2000⟩) ∧
        u.cadence = { s.cadence with round := [] } ∧
        (strapAddress straps ≠ 0 → KeepsAllBut [.node, .cadence] s u) ∧
        (strapAddress straps = 0 →
          u.forward.resend = none ∧ u.forward.tx = s.forward.tx ∧ u.forward.turn = s.forward.turn ∧
          u.signs = { s.signs with defaultSlot := false } ∧ u.boundaries.period = s.boundaries.period ∧
          (∀ b, b < 8 → boundaryRt u b = { boundaryRt s b with due := false }) ∧
          KeepsAllBut [.node, .cadence, .forward, .signs, .boundaries] s u))) ∧
  (∀ s : State, s.inReset = false → ∀ a, s.node.retired = some ⟨a, some 0⟩ →
    ∃ t, exec .retiredAddressDrop s = .next t ∧ t.node = { s.node with retired := none } ∧ KeepsAllBut [.node] s t)

/-- At the beat timer's expiry a BEAT with the next number is placed and the timer restarts. A beat that misses its round limit leaves the
list and counts as BEAT_LOST; the miss count rises, holding at 3, and at 3 LOOP_OPEN is set, latching LOOP_DEGRADED once with detail 5. An own
BEAT that comes back within its limit takes its entry away, clears the count and LOOP_OPEN; one with no entry is late. The beat timer runs
while the router is addressed and Port B is up: where that has begun to hold at the end of a step, a BEAT with the next number is placed and
the timer starts with the beat period; where it does not hold the timer is stopped and the slot empty. That this is judged once, at the end of
the step, is the model's reading (log 30). -/
def Obligations.BeatsAreSentAndChecked : Prop :=
  (∀ s : State, beatRuns s = true ↔ (s.node.address ≠ 0 ∧ (s.portB.state = .upDual ∨ s.portB.state = .upSingle))) ∧
  (∀ before after t : State, t = settle before after →
    (beatRuns after = true → beatRuns before = false →
      t.cadence = { after.cadence with slot := some after.cadence.nextBeat, nextBeat := after.cadence.nextBeat + 1,
                                       timer := some after.tables.params.beatPeriod }) ∧
    (beatRuns after = true → beatRuns before = true → t.cadence = after.cadence) ∧
    (beatRuns after = false → t.cadence = { after.cadence with timer := none, slot := none })) ∧
  (∀ s : State, s.inReset = false → beatRuns s = true → s.cadence.timer = some 0 →
    ∃ t, exec .beatTimerExpiry s = .next t ∧
      t.cadence = { s.cadence with slot := some s.cadence.nextBeat, nextBeat := s.cadence.nextBeat + 1,
                                   timer := some s.tables.params.beatPeriod } ∧
      KeepsAllBut [.cadence] s t) ∧
  ((7 : Fin 8) + 1 = 0) ∧
  (∀ (s : State) (i : Nat), s.canonical = true → s.inReset = false → ∀ b, s.cadence.round[i]? = some ⟨b, some 0⟩ →
    ∃ t, exec (.roundLimitExpiry i) s = .next t ∧ t.cadence.round = s.cadence.round.eraseIdx i ∧
      t.cadence.missCount = min (s.cadence.missCount + 1) 3 ∧
      t.cadence.loopOpen = (s.cadence.loopOpen || decide (2 ≤ s.cadence.missCount)) ∧ t.cadence.lateBeats = s.cadence.lateBeats ∧
      t.counters = (count .beatLost none s).counters ∧
      (2 ≤ s.cadence.missCount → s.cadence.loopOpen = false → (causeRec t 3).latched = true ∧ (causeRec t 3).detail = 5) ∧
      (s.cadence.missCount < 2 ∨ s.cadence.loopOpen = true → causeRec t 3 = causeRec s 3) ∧
      KeepsAllBut [.cadence, .counters, .notices] s t) ∧
  (∀ (s : State) (bs : List Byte), s.inReset = false → s.portA.state.isUp = true → addressed s = true →
    ∀ m, parseTelegram bs = .good m → ∀ n, arrivalSlot s m = some n → isOwn s m = true → m.isKind .ctl 1 = true →
    ∀ b rest, m.payload = b :: rest →
    ∃ t, exec (.telegramArrival bs) s = .next t ∧
      t.portA.returns = .credit (creditOf m.shared m.cls) :: s.portA.returns ∧ t.portA.pool = s.portA.pool ∧
      (∀ i, b.toNat < 8 → s.cadence.round.findIdx? (fun x => decide (x.beat.val = b.toNat)) = some i →
        t.cadence.round = s.cadence.round.eraseIdx i ∧ t.cadence.missCount = 0 ∧ t.cadence.loopOpen = false ∧
        t.cadence.lateBeats = s.cadence.lateBeats) ∧
      (b.toNat < 8 → s.cadence.round.findIdx? (fun x => decide (x.beat.val = b.toNat)) = none →
        t.cadence.round = s.cadence.round ∧ t.cadence.missCount = s.cadence.missCount ∧ t.cadence.loopOpen = s.cadence.loopOpen ∧
        t.cadence.lateBeats = min (s.cadence.lateBeats + 1) 65535) ∧
      KeepsAllBut [.portA, .cadence] s t)

/-- A credit stall timer that expires opens its class's stall episode and latches LOOP_DEGRADED with detail 4. At the end of every step the
timer of a class that is not starved is stopped, and that of a starved class with no episode and no timer running is started; that this is
judged once, at the end of the step, is the model's reading (log 30). A class is starved where Port B is up, a telegram of the class waits and
no credit usable for it is held. A class waits in the forward queue, in what the resend slot may offer, and in what the owners of the class
offer: SIGN in the sign scheduler's offer, MGMT in a NOTICE offered or, while addressed, a RESPONSE placed, CTL, while addressed, in a BEAT
placed or a boundary due. That a NOTICE the unit would offer waits is the model's choice (log 43). -/
def Obligations.StallEpisodesFollowStarvation : Prop :=
  (∀ (s : State) (c : TClass),
    (starved s c = true ↔ (s.portB.state.isUp = true ∧ waits s c = true ∧ usable s c = false)) ∧
    (usable s c = true ↔ (0 < s.portB.credits.ded.get c ∨ 0 < s.portB.credits.shared)) ∧
    (waits s c = true ↔
      ((∃ p, p ∈ s.portA.pool ∧ p.waiting = true ∧ p.telegram.cls = c) ∨ (∃ m, resendOffer s = some m ∧ m.cls = c) ∨
        (c = .sign ∧ (signOffer s).isSome = true) ∨
        (c = .mgmt ∧ ((noticeOffer s).isSome = true ∨ (addressed s = true ∧ s.requests.slot.isSome = true))) ∨
        (c = .ctl ∧ addressed s = true ∧ (s.cadence.slot.isSome = true ∨ ∃ b, b < 8 ∧ (boundaryRt s b).due = true))))) ∧
  (∀ (s : State) (c : TClass), s.canonical = true → s.inReset = false → (s.forward.stalls.get c).timer = some 0 →
    ∃ t, exec (.creditStallExpiry c) s = .next t ∧ t.forward.stalls.get c = ⟨none, true⟩ ∧
      (∀ d, (t.forward.stalls.get d).episode = (decide (d = c) || (s.forward.stalls.get d).episode)) ∧
      causeRec t 3 = { causeRec s 3 with latched := true, detail := 4 } ∧ KeepsAllBut [.notices] s t) ∧
  (∀ (before after : State) (c : TClass),
    (starved (settle before after) c = false →
      (settle before after).forward.stalls.get c = ⟨none, (after.forward.stalls.get c).episode⟩) ∧
    (starved (settle before after) c = true → (after.forward.stalls.get c).episode = false →
      (after.forward.stalls.get c).timer = none →
      (settle before after).forward.stalls.get c = ⟨some (after.tables.params.creditStallTime * 100), false⟩) ∧
    (starved (settle before after) c = true →
      ((after.forward.stalls.get c).episode = true ∨ (after.forward.stalls.get c).timer.isSome = true) →
      (settle before after).forward.stalls.get c = after.forward.stalls.get c))

/-- Each millisecond the occupied slots and the waiting classes are counted: the slots as one occurrence, each waiting class as one of its
own, in the order of the class codes (log 34). A counter adds 1 for an event whose code of Table 9-5 it selects, its class in the mask (bit n
for class n, log 16) where the event reads the mask; of a pool sample the slots, or 1 at or above its threshold. While frozen no counter adds.
Otherwise each adds its amount modulo 2^32; one that passes 4294967295 sets its overflow flag and COUNTER_OVERFLOW is latched with its number
(the highest, where several overflow, log 42), and where it freezes on overflow the frozen flag is set after all have added the occurrence. -/
def Obligations.SamplesAreCountedAndCountersWrap : Prop :=
  (∀ s : State, s.inReset = false →
    (∃ t, exec .poolSample s = .next t ∧ t.counters = (tally (poolAmount s.portA.pool.length) s).counters ∧
      KeepsAllBut [.counters, .notices] s t) ∧
    (∃ t, exec .creditWaitSample s = .next t ∧ t.counters =
        ((creditWaiters s).foldl (fun u c => count .creditWait (some c) u) s).counters ∧
      KeepsAllBut [.counters, .notices] s t)) ∧
  (∀ (ev : CounterEvent) (cls : Option TClass) (s : State),
    count ev cls s = tally (fun k => if k.event = eventCode ev ∧ ∀ c, cls = some c → k.mask.getLsbD (classCode c) = true then 1 else 0) s) ∧
  ([CounterEvent.forwarded, .cutThrough, .queued, .poolOccupancy, .poolAbove, .creditWait, .checkFail, .overrun, .reportsTaken, .showSent,
    .statusMismatch, .solveCommit, .solveAbort, .sweeps, .requestDropped, .beatLost, .advertRejected].map eventCode =
      [1, 2, 3, 4, 5, 6, 7, 8, 9, 10, 11, 12, 13, 14, 15, 16, 17] ∧
    [TClass.haz, .sign, .mgmt, .ctl].map classCode = [0, 1, 2, 3]) ∧
  (∀ (n : Nat) (k : Counter), poolAmount n k = (if k.event = 4 then n else if k.event = 5 ∧ k.threshold ≤ n then 1 else 0)) ∧
  (∀ s : State, creditWaiters s = [TClass.haz, .sign, .mgmt, .ctl].filter (fun c => waits s c && !usable s c)) ∧
  (∀ (amount : Counter → Nat) (s : State), s.canonical = true →
    (s.counters.frozen = true → tally amount s = s) ∧
    (s.counters.frozen = false →
      (∀ i, i < 4 → counterAt (tally amount s) i =
        { counterAt s i with
          value := BitVec.ofNat 32 ((counterAt s i).value.toNat + amount (counterAt s i))
          overflow := (counterAt s i).overflow || decide (2 ^ 32 ≤ (counterAt s i).value.toNat + amount (counterAt s i)) }) ∧
      ((tally amount s).counters.frozen = true ↔
        ∃ i, i < 4 ∧ 2 ^ 32 ≤ (counterAt s i).value.toNat + amount (counterAt s i) ∧ (counterAt s i).freezeOnOverflow = true) ∧
      (∀ i, i < 4 → 2 ^ 32 ≤ (counterAt s i).value.toNat + amount (counterAt s i) →
        (∀ j, j < 4 → i < j → (counterAt s j).value.toNat + amount (counterAt s j) < 2 ^ 32) →
        causeRec (tally amount s) 12 = { causeRec s 12 with latched := true, detail := i }) ∧
      ((∀ i, i < 4 → (counterAt s i).value.toNat + amount (counterAt s i) < 2 ^ 32) → (tally amount s).notices = s.notices) ∧
      (∀ n, n ≠ 12 → causeRec (tally amount s) n = causeRec s n) ∧
      KeepsAllBut [.counters, .notices] s (tally amount s)))

/-! ### The hazard map -/

/-- A recomputation of a zone latches it by its ALARM weight and PRE_ALARM count unless it is isolated, runs the watch decay rule, derives its
state by rank, and touches no other zone and no detector. An unchanged state raises no event. An escalation latches ZONE_ESCALATED, reaches
the solver as an escalation and then the mode controller, in MAINT as a fire cause, of EVAC where to DENSE, and takes an INCIDENT capture
while the incident lock is OPEN. Any other change reaches the solver and then the mode controller as a change. A change is an escalation where
it is to DENSE, or to SMOKE from other than DENSE. The exits that name the zone have their usability recomputed, in ascending order (log 12).
-/
def Obligations.RecomputationDerivesTheZone : Prop :=
  (∀ old new : ZoneState, isEscalation old new = true ↔
    ((new = .dense ∧ old ≠ .dense) ∨ (new = .smoke ∧ old ≠ .smoke ∧ old ≠ .dense))) ∧
  ∀ (s : State) (z : Nat), s.canonical = true → z < 64 → ∀ t, t = recompute z s →
    ((zoneRt t z).isolate = (zoneRt s z).isolate ∧ (zoneRt t z).stale = (zoneRt s z).stale ∧
      (zoneRt t z).preCount = preAlarms s z ∧
      (zoneRt t z).dense = ((zoneRt s z).dense ||
        (!(zoneRt s z).isolate && decide ((zoneEntry s z).denseQuorum ≤ alarmWeight s z))) ∧
      (zoneRt t z).smoke = ((zoneRt s z).smoke || (!(zoneRt s z).isolate &&
        (decide ((zoneEntry s z).denseQuorum ≤ alarmWeight s z) || decide (1 ≤ alarmWeight s z) || decide (2 ≤ preAlarms s z)))) ∧
      (zoneRt t z).watch =
        (if 1 ≤ (zoneRt s z).preCount ∧ preAlarms s z = 0 then some (s.tables.params.watchDecayTime * 1000)
         else if (zoneRt s z).preCount = 0 ∧ 1 ≤ preAlarms s z then none else (zoneRt s z).watch) ∧
      zoneState t z =
        (if (zoneRt t z).dense then .dense
         else if (zoneRt t z).smoke then .smoke
         else if (zoneRt t z).isolate = true ∨ faultedCount s z = (detectorsOf s z).length then .isolated
         else if (zoneRt t z).stale then .stale
         else if 1 ≤ preAlarms s z ∨ (zoneRt t z).watch.isSome = true then .watch
         else .clear)) ∧
    (∀ y, y ≠ z → zoneRt t y = zoneRt s y) ∧ t.hazard.detectors = s.hazard.detectors ∧ t.tables = s.tables ∧
    (zoneState t z = zoneState s z →
      t.solver = s.solver ∧ t.mode = s.mode ∧ t.captures = s.captures ∧ causeRec t 1 = causeRec s 1) ∧
    (isEscalation (zoneState s z) (zoneState t z) = true →
      (causeRec t 1).latched = true ∧ (causeRec t 1).detail = z ∧
      (s.mode.startWait = true → t.mode = s.mode) ∧
      (s.mode.startWait = false → s.mode.mode ≠ .maint →
        t.mode.mode = (if zoneState t z = .dense ∨ s.mode.mode = .evac then .evac else .alert)) ∧
      ((s.mode.startWait = true ∨ s.mode.mode ≠ .maint) → t.solver = (solveTrigger true s).solver) ∧
      (∀ w, w = solveTrigger true (latch .zoneEscalated z (setZoneRt s z (zoneRt t z))) →
        ∀ v, v = escalationAtMode (zoneState t z) w →
        (s.mode.startWait = false → s.mode.mode = .maint → v = fireCause (decide (zoneState t z = .dense)) false w) ∧
        t.mode = v.mode ∧ t.solver = v.solver ∧ t.signs = v.signs ∧ t.layout = v.layout ∧ t.store = v.store ∧ t.cadence = v.cadence ∧
        t.counters = v.counters ∧ ∀ n, n ∉ [4, 9, 10] → causeRec t n = causeRec v n) ∧
      (s.captures.lockClosed = true → t.captures = s.captures) ∧
      (s.captures.lockClosed = false → t.captures.lockClosed = true ∧
        ∀ n, emptySlot s.captures.filled = some n →
          ∃ x : Capture, t.captures.filled = s.captures.filled ++ [⟨n, x⟩] ∧ x.trigger = .incident ∧ x.uptime = s.uptime ∧
            x.zones = (List.range 64).map (zoneState t))) ∧
    (zoneState t z ≠ zoneState s z → isEscalation (zoneState s z) (zoneState t z) = false →
      t.solver = (solveTrigger false s).solver ∧ t.captures = s.captures ∧ causeRec t 1 = causeRec s 1 ∧
      (s.mode.startWait = true → t.mode = s.mode) ∧
      (s.mode.startWait = false →
        (s.mode.mode = .quiet →
          t.mode.mode = (if zoneState t z = .watch ∧ (zoneEntry s z).wakeOnWatch = true then .alert else .quiet)) ∧
        (s.mode.mode = .standby → t.mode.mode = (if hazardPresent t then .alert else .standby)) ∧
        (s.mode.mode = .alert → t.mode.mode = (if hazardPresent t then .alert else .standby)) ∧
        ((s.mode.mode = .evac ∨ s.mode.mode = .maint) → t.mode = s.mode)) ∧
      (∀ v, v = changeAtMode z (zoneState t z) (solveTrigger false (setZoneRt s z (zoneRt t z))) →
        t.mode = v.mode ∧ t.signs = v.signs ∧ t.layout = v.layout ∧ t.store = v.store ∧ t.cadence = v.cadence ∧
        t.counters = v.counters ∧ ∀ n, n ≠ 4 → causeRec t n = causeRec v n)) ∧
    (∀ e, e < 32 → (exitRt t e).closed = (exitRt s e).closed ∧ (exitRt t e).bias = (exitRt s e).bias ∧
      (exitRt t e).usability = (if (exitEntry s e).zone = z
        then usabilityOf (exitEntry s e).defined (exitRt s e).closed (zoneState t z) else (exitRt s e).usability)) ∧
    (∀ e, e < 32 → (exitRt t e).usability ≠ (exitRt s e).usability →
      (∀ k, k < 32 → e < k → (exitRt t k).usability = (exitRt s k).usability) →
      (causeRec t 4).latched = true ∧ (causeRec t 4).detail = e) ∧
    KeepsAllBut [.hazard, .notices, .solver, .mode, .signs, .cadence, .captures, .layout, .store, .counters] s t

/-- A silence timer that expires sets SILENT, latches DETECTOR_FAULT and has the detector's zone recomputed. A watch decay timer that expires
stops and has its zone recomputed: with no PRE_ALARM, no latch and nothing else holding the zone it becomes CLEAR. The whole next state is
that recomputation's, its events and what the end of a step does (log 30) among it. -/
def Obligations.SilenceAndWatchTimersExpire : Prop :=
  (∀ (s : State) (i : Nat), s.canonical = true → s.inReset = false → (detectorRt s i).silence = some 0 →
    ∃ t, exec (.silenceTimerExpiry i) s = .next t ∧
      detectorRt t i = { detectorRt s i with silence := none, silent := true } ∧
      (∀ j, j ≠ i → detectorRt t j = detectorRt s j) ∧
      (causeRec t 7).latched = true ∧ (causeRec t 7).detail = i ∧ (causeRec t 7).enabled = (causeRec s 7).enabled ∧
      t.hazard = (recompute (detectorEntry s i).zone
        (setDetectorRt s i { detectorRt s i with silence := none, silent := true })).hazard ∧
      t = settle s (recompute (detectorEntry s i).zone (latch .detectorFault i
        (setDetectorRt s i { detectorRt s i with silence := none, silent := true }))) ∧
      (∀ z, z ≠ (detectorEntry s i).zone → zoneRt t z = zoneRt s z) ∧
      KeepsAllBut [.hazard, .notices, .solver, .mode, .signs, .cadence, .captures, .layout, .store, .counters] s t) ∧
  (∀ (s : State) (z : Nat), s.canonical = true → s.inReset = false → (zoneRt s z).watch = some 0 →
    ∃ t, exec (.watchDecayExpiry z) s = .next t ∧
      t.hazard = (recompute z (setZoneRt s z { zoneRt s z with watch := none })).hazard ∧
      t = settle s (recompute z (setZoneRt s z { zoneRt s z with watch := none })) ∧
      t.hazard.detectors = s.hazard.detectors ∧ (∀ y, y ≠ z → zoneRt t y = zoneRt s y) ∧
      ((zoneRt s z).preCount = preAlarms s z → (zoneRt t z).watch = none) ∧
      ((zoneRt s z).preCount = 0 → preAlarms s z = 0 → alarmWeight s z = 0 → 1 ≤ (zoneEntry s z).denseQuorum →
        zoneLatched s z = false → (zoneRt s z).isolate = false → zoneAllOut s z = false → (zoneRt s z).stale = false →
        zoneState t z = .clear) ∧
      KeepsAllBut [.hazard, .notices, .solver, .mode, .signs, .cadence, .captures, .layout, .store, .counters] s t)

/-- ZONE_RESET clears the zone's latches, its watch timer and the FAULT flags of its detectors whose last condition is not FAULT, and the
recomputation latches it again from stored conditions. ZONE_ISOLATE sets or clears the isolate flag and keeps the latches that are set.
ZONE_CONFIRM makes the zone DENSE. Each has the zone recomputed, with the events that raises, answers OK and leaves the other zones as they
were; an index above 63 is answered BAD_INDEX and a setting that is neither on nor off BAD_FIELD, with no effect. -/
def Obligations.ZoneRequestsActOnOneZone : Prop :=
  ∀ (e : ReqEntry) (s : State), s.canonical = true → ∀ z rest, fieldsOf e = z :: rest →
    (∀ (c : Instr) (row : ReqRow), ((c = .zoneReset ∧ row = .zoneReset) ∨ (c = .zoneIsolateOn ∧ row = .zoneIsolateOn) ∨
        (c = .zoneIsolateOff ∧ row = .zoneIsolateOff) ∨ (c = .zoneConfirm ∧ row = .zoneConfirm)) → Begins row e s →
      (64 ≤ z.toNat → Answers c s e .badIndex [] s) ∧
      (z.toNat < 64 → ∃ u, Answers c s e .ok [] u ∧ (∀ y, y ≠ z.toNat → zoneRt u y = zoneRt s y) ∧
        (zoneRt u z.toNat).stale = (zoneRt s z.toNat).stale ∧
        zoneState u z.toNat = deriveZone (zoneRt u z.toNat) (zoneAllOut u z.toNat) ∧
        (zoneRt u z.toNat).preCount = preAlarms u z.toNat ∧
        KeepsAllBut [.hazard, .notices, .solver, .mode, .signs, .cadence, .captures, .layout, .store, .counters] s u ∧
        (c = .zoneReset → u = recompute z.toNat (clearFaults z.toNat
          (setZoneRt s z.toNat { zoneRt s z.toNat with smoke := false, dense := false, watch := none }))) ∧
        (c = .zoneIsolateOn → u = recompute z.toNat (setZoneRt s z.toNat { zoneRt s z.toNat with isolate := true })) ∧
        (c = .zoneIsolateOff → u = recompute z.toNat (setZoneRt s z.toNat { zoneRt s z.toNat with isolate := false })) ∧
        (c = .zoneConfirm → u = recompute z.toNat (setZoneRt s z.toNat { zoneRt s z.toNat with smoke := true, dense := true })) ∧
        (c ≠ .zoneReset → u.hazard.detectors = s.hazard.detectors) ∧
        (c = .zoneReset →
          (∀ i, i < 256 → detectorRt u i =
            (if (detectorEntry s i).inUse = true ∧ (detectorEntry s i).zone = z.toNat ∧ (detectorRt s i).last ≠ .fault
             then { detectorRt s i with fault := false } else detectorRt s i)) ∧
          (zoneRt u z.toNat).isolate = (zoneRt s z.toNat).isolate ∧
          (zoneRt u z.toNat).dense = (!(zoneRt s z.toNat).isolate &&
            decide ((zoneEntry s z.toNat).denseQuorum ≤ alarmWeight s z.toNat)) ∧
          (zoneRt u z.toNat).smoke = (!(zoneRt s z.toNat).isolate &&
            (decide ((zoneEntry s z.toNat).denseQuorum ≤ alarmWeight s z.toNat) || decide (1 ≤ alarmWeight s z.toNat) ||
              decide (2 ≤ preAlarms u z.toNat))) ∧
          (zoneRt u z.toNat).watch =
            (if 1 ≤ (zoneRt s z.toNat).preCount ∧ preAlarms u z.toNat = 0 then some (s.tables.params.watchDecayTime * 1000)
             else none)) ∧
        (c = .zoneIsolateOn →
          (zoneRt u z.toNat).isolate = true ∧ (zoneRt u z.toNat).smoke = (zoneRt s z.toNat).smoke ∧
          (zoneRt u z.toNat).dense = (zoneRt s z.toNat).dense ∧ (zoneLatched s z.toNat = false → zoneState u z.toNat = .isolated)) ∧
        (c = .zoneIsolateOff →
          (zoneRt u z.toNat).isolate = false ∧
          (zoneRt u z.toNat).dense = ((zoneRt s z.toNat).dense ||
            decide ((zoneEntry s z.toNat).denseQuorum ≤ alarmWeight s z.toNat)) ∧
          (zoneRt u z.toNat).smoke = ((zoneRt s z.toNat).smoke ||
            (decide ((zoneEntry s z.toNat).denseQuorum ≤ alarmWeight s z.toNat) || decide (1 ≤ alarmWeight s z.toNat) ||
              decide (2 ≤ preAlarms s z.toNat)))) ∧
        (c = .zoneConfirm →
          (zoneRt u z.toNat).isolate = (zoneRt s z.toNat).isolate ∧ (zoneRt u z.toNat).smoke = true ∧
          (zoneRt u z.toNat).dense = true ∧ zoneState u z.toNat = .dense ∧
          (zoneState s z.toNat ≠ .dense → (causeRec u 1).latched = true ∧ (causeRec u 1).detail = z.toNat)))) ∧
    (∀ v more, rest = v :: more → Begins .zoneIsolateBadSetting e s →
      (64 ≤ z.toNat → Answers .zoneIsolateBadSetting s e .badIndex [] s) ∧
      (z.toNat < 64 → Answers .zoneIsolateBadSetting s e .badField [] s))

/-- EXIT_SET stores the panel state and the bias of the exit, defined or not, in every mode, and recomputes its usability. Where neither
stored value is altered nothing is handed to the solver; where one is, an escalation is handed to it when the exit is defined and changes from
OPEN to CLOSED, and a change otherwise. It latches no ZONE_ESCALATED and reaches neither the mode controller nor the capture unit. The
usability is NO_USE where the exit is not defined, is CLOSED or its zone is DENSE, else HARM_USE where its zone is SMOKE, else SAFE_USE. -/
def Obligations.ExitSetIsHandedToTheSolver : Prop :=
  (∀ (d c : Bool) (z : ZoneState), usabilityOf d c z =
    (if d = false ∨ c = true ∨ z = .dense then .noUse else if z = .smoke then .harmUse else .safeUse)) ∧
  ∀ (e : ReqEntry) (s : State), s.canonical = true → Begins .exitSet e s →
    ∀ x p hi lo rest, fieldsOf e = x :: p :: hi :: lo :: rest →
    (32 ≤ x.toNat → Answers .exitSet s e .badIndex [] s) ∧
    (x.toNat < 32 → (1 < p.toNat ∨ 5000 < word16 hi lo) → Answers .exitSet s e .badField [] s) ∧
    (x.toNat < 32 → p.toNat ≤ 1 → word16 hi lo ≤ 5000 →
      ∃ u, Answers .exitSet s e .ok [] u ∧
        exitRt u x.toNat = ⟨decide (p.toNat = 1), word16 hi lo,
          usabilityOf (exitEntry s x.toNat).defined (decide (p.toNat = 1)) (zoneState s (exitEntry s x.toNat).zone)⟩ ∧
        (∀ y, y ≠ x.toNat → exitRt u y = exitRt s y) ∧ u.hazard.zones = s.hazard.zones ∧ u.hazard.detectors = s.hazard.detectors ∧
        ((exitRt s x.toNat).closed = decide (p.toNat = 1) → (exitRt s x.toNat).bias = word16 hi lo →
          u.solver = s.solver ∧ u.counters = s.counters) ∧
        (((exitRt s x.toNat).closed ≠ decide (p.toNat = 1) ∨ (exitRt s x.toNat).bias ≠ word16 hi lo) →
          ((exitEntry s x.toNat).defined = true ∧ (exitRt s x.toNat).closed = false ∧ p.toNat = 1 →
            u.solver = (solveTrigger true s).solver ∧ u.counters = (solveTrigger true s).counters) ∧
          (¬((exitEntry s x.toNat).defined = true ∧ (exitRt s x.toNat).closed = false ∧ p.toNat = 1) →
            u.solver = (solveTrigger false s).solver ∧ u.counters = (solveTrigger false s).counters)) ∧
        causeRec u 1 = causeRec s 1 ∧ u.mode = s.mode ∧ u.captures = s.captures ∧
        (usabilityOf (exitEntry s x.toNat).defined (decide (p.toNat = 1)) (zoneState s (exitEntry s x.toNat).zone)
            ≠ (exitRt s x.toNat).usability →
          (causeRec u 4).latched = true ∧ (causeRec u 4).detail = x.toNat) ∧
        KeepsAllBut [.hazard, .solver, .notices, .counters] s u)

/-- A zone's SMOKE and DENSE latches, once set, are cleared by ZONE_RESET, POWER and PIN alone. -/
def Obligations.LatchesAreClearedByResetAlone : Prop :=
  ∀ (c : Instr) (s : State) (z : Nat), s.canonical = true → c ≠ .zoneReset → c ≠ .powerReset → c ≠ .pinReset →
    ∃ t, exec c s = .next t ∧ ((zoneRt s z).smoke = true → (zoneRt t z).smoke = true) ∧
      ((zoneRt s z).dense = true → (zoneRt t z).dense = true)

/-! ### The route solver -/

/-- A trigger with no ACTIVE layout does nothing. One taken while the solver is IDLE starts a solve. An escalation taken in SAFE_SWEEP,
HARM_SWEEP or BALANCE below the restart limit of the snapshot restarts the solve and counts SOLVE_ABORT; every other trigger sets the pending
flag and has no other effect. The recheck expiry and SOLVE_NOW hand a trigger; SOLVE_NOW says STARTED or PENDING. -/
def Obligations.TriggersStartRestartOrPend : Prop :=
  (∀ (s : State) (esc : Bool),
    (s.layout ≠ .active → solveTrigger esc s = s) ∧
    (s.layout = .active → s.solver.phase = .idle →
      (solveTrigger esc s).solver = { s.solver with
        phase := .take, snapshot := none, work := [], workSelections := [], tierSweeps := 0, sweeps := 0, restarts := 0 } ∧
      KeepsAllBut [.solver] s (solveTrigger esc s)) ∧
    (s.layout = .active → esc = true → (s.solver.phase = .safeSweep ∨ s.solver.phase = .harmSweep ∨ s.solver.phase = .balance) →
      ∀ sn, s.solver.snapshot = some sn → s.solver.restarts < sn.restartLimit →
      (solveTrigger esc s).solver = { s.solver with
        phase := .take, snapshot := none, work := [], workSelections := [], tierSweeps := 0, restarts := s.solver.restarts + 1 } ∧
      (solveTrigger esc s).counters = (count .solveAbort none s).counters ∧
      KeepsAllBut [.solver, .counters, .notices] s (solveTrigger esc s)) ∧
    (s.layout = .active → s.solver.phase ≠ .idle →
      (esc = false ∨ s.solver.phase = .take ∨ s.solver.phase = .select ∨ s.solver.phase = .commit ∨
        ∃ sn, s.solver.snapshot = some sn ∧ sn.restartLimit ≤ s.solver.restarts) →
      solveTrigger esc s = { s with solver := { s.solver with pending := true } })) ∧
  (∀ s : State, s.inReset = false → s.solver.recheck = some 0 →
    ∃ t, exec .recheckExpiry s = .next t ∧
      t.solver = (solveTrigger false { s with solver := { s.solver with recheck := none } }).solver ∧ t.solver.recheck = none ∧
      KeepsAllBut [.solver] s t) ∧
  (∀ (e : ReqEntry) (s : State), Begins .solveNow e s →
    ((s.layout = .validating ∨ s.layout = .reloading) → Answers .solveNow s e .busy [] s) ∧
    ((s.layout = .none ∨ s.layout = .editing) → Answers .solveNow s e .noLayout [] s) ∧
    (s.layout = .active → s.solver.phase = .idle → Answers .solveNow s e .ok [0] (solveTrigger false s)) ∧
    (s.layout = .active → s.solver.phase ≠ .idle → Answers .solveNow s e .ok [1] (solveTrigger false s)))

/-- TAKE copies the snapshot, the zone states and definitions, the exits, the boundaries and eight parameters, clears the pending flag, sets
biases and rounds to 0 and sets up tier 1: an EXIT place of a tier 1 exit is TARGET at its base cost, panel bias and place penalty; a boundary
with a SAFE crossing starts at the crossing's cost; every other place is unreachable. SELECT records one selection for each sign: HOME at a
TARGET place, FALLBACK at a place with no route, ROUTE with the first face that matches the next of a routed place, GAP where no face matches;
each carries the tier, cost and target of the place. The place penalty is what the zone's snapshot state contributes, SMOKE and DENSE both
giving the SMOKE penalty. -/
def Obligations.TakeAndSelectFollowTheTables : Prop :=
  (∀ s : State, snapshotOf s =
    { zones := (List.range 64).map (zoneState s)
      zoneDefined := (List.range 64).map (fun z => (zoneEntry s z).defined)
      exits := (List.range 32).map (fun e => ⟨exitEntry s e, (exitRt s e).closed, (exitRt s e).bias⟩)
      boundaries := (List.range 8).map (fun b => ⟨(boundaryRt s b).state, (boundaryRt s b).heardCost, (boundaryRt s b).heardTier⟩)
      watchPenalty := s.tables.params.watchPenalty, stalePenalty := s.tables.params.stalePenalty
      isolatedPenalty := s.tables.params.isolatedPenalty, smokePenalty := s.tables.params.smokePenalty
      routeCeiling := s.tables.params.routeCeiling, restartLimit := s.tables.params.restartLimit
      balanceRounds := s.tables.params.balanceRounds, balanceStep := s.tables.params.balanceStep }) ∧
  (∀ (s : State) (z : Nat), z < 64 → (snapshotOf s).placePenalty z =
    (match zoneState s z with
     | .clear => 0
     | .watch => s.tables.params.watchPenalty
     | .stale => s.tables.params.stalePenalty
     | .isolated => if (zoneEntry s z).defined = true then s.tables.params.isolatedPenalty else 0
     | .smoke => s.tables.params.smokePenalty
     | .dense => s.tables.params.smokePenalty)) ∧
  (∀ s : State, s.inReset = false → s.solver.phase = .take →
    ∃ t, exec .solveTake s = .next t ∧ t.solver.phase = .safeSweep ∧ t.solver.snapshot = some (snapshotOf s) ∧
      t.solver.pending = false ∧ t.solver.rounds = 0 ∧ t.solver.tierSweeps = 0 ∧ t.solver.biases = List.replicate 32 0 ∧
      t.solver.work.length = s.tables.layout.header.placeCount ∧
      t.solver.restarts = s.solver.restarts ∧ t.solver.sweeps = s.solver.sweeps ∧ t.solver.committed = s.solver.committed ∧
      t.solver.generation = s.solver.generation ∧ t.solver.recheck = s.solver.recheck ∧
      (∀ p r, t.solver.work[p]? = some r →
        (∀ x, (placeOf s.tables.layout p).kind = .exit → (placeOf s.tables.layout p).exitId = some x → x < 32 →
          (exitEntry s x).zone < 64 →
          r = (if (exitEntry s x).defined = true ∧ (exitRt s x).closed = false ∧
                  zoneState s (exitEntry s x).zone ≠ .smoke ∧ zoneState s (exitEntry s x).zone ≠ .dense ∧
                  (exitEntry s x).baseCost + (exitRt s x).bias +
                    (snapshotOf s).placePenalty (placeOf s.tables.layout p).zone ≤ s.tables.params.routeCeiling
               then ⟨(exitEntry s x).baseCost + (exitRt s x).bias + (snapshotOf s).placePenalty (placeOf s.tables.layout p).zone,
                     .target, none, some (.exit x)⟩
               else SolRec.unreachable)) ∧
        (∀ b, (placeOf s.tables.layout p).kind = .boundary → (placeOf s.tables.layout p).boundary = some b → b < 8 →
          (placeOf s.tables.layout p).zone < 64 →
          r = (if (boundaryOf s.tables.layout b).defined = true ∧ (boundaryRt s b).state = .live ∧
                  (boundaryRt s b).heardCost < s.tables.params.routeCeiling ∧
                  (boundaryRt s b).heardCost + (boundaryOf s.tables.layout b).crossingCost ≤ s.tables.params.routeCeiling ∧
                  (boundaryRt s b).heardTier = .safe ∧ (zoneState s (placeOf s.tables.layout p).zone).inSmoke = false
               then ⟨(boundaryRt s b).heardCost + (boundaryOf s.tables.layout b).crossingCost, .none, some .crossing,
                     some (.boundary b)⟩
               else SolRec.unreachable)) ∧
        (((placeOf s.tables.layout p).kind = .aisle ∨ (placeOf s.tables.layout p).kind = .junction) → r = SolRec.unreachable)) ∧
      KeepsAllBut [.solver] s t) ∧
  (∀ s : State, s.inReset = false → s.solver.phase = .select →
    ∃ t, exec .solveSelect s = .next t ∧ t.solver.phase = .commit ∧ t.solver.work = s.solver.work ∧
      t.solver.workSelections.length = s.tables.layout.header.signCount ∧
      (∀ i x, t.solver.workSelections[i]? = some x →
        ∀ r, r = s.solver.work.getD (signOf s.tables.layout i).place SolRec.unreachable →
          x.tier = r.tier ∧ x.cost = r.cost ∧ x.target = r.target ∧
          (r.tier = .target → x.kind = .home ∧ x.face = (signOf s.tables.layout i).homeFace) ∧
          (r.tier = .none → x.kind = .fallback ∧ x.face = (signOf s.tables.layout i).fallbackFace) ∧
          ((r.tier = .safe ∨ r.tier = .leastHarm) →
            (∀ f w, (signOf s.tables.layout i).faces[f]? = some w → r.next = some w →
              (∀ g, g < f → (signOf s.tables.layout i).faces[g]? ≠ some w) → x.kind = .route ∧ x.face = f + 1) ∧
            ((∀ w, w ∈ (signOf s.tables.layout i).faces → r.next ≠ some w) →
              x.kind = .gap ∧ x.face = (signOf s.tables.layout i).fallbackFace))) ∧
      KeepsAllBut [.solver] s t)

/-- A sweep is counted, and costs never rise: a TARGET or SAFE place keeps its record, and a place is rerouted only over a passage that its
tier does not bar. The candidate over a passage is the neighbour's cost with the passage's length and penalty, the sum over the distinct zones
it touches: one at or below the ceiling bounds the cost from above, one below the cost is taken, and a changed record leads to a neighbour
that bears out its cost. Tier 2 sets up the places still unreachable, EXIT places of tier 2 exits and crossings among them. A sweep that
changed something, below the limit of sweeps, leaves the tier running. A sweep goes over the passages in ascending index, each in its
permitted directions, from end A first: a candidate equal to the cost is taken where the next is CROSSING or a passage of lower index, and
where this passage is already the next the target follows the neighbour's. The end of tier 1 marks the routed places SAFE and sets up tier 2,
which is passed over where no place is unreachable; the end of tier 2 marks LEAST_HARM, and an exit over its catchment limit starts another
balancing round while rounds remain, each such exit's bias raised by the step; else SELECT follows. -/
def Obligations.SweepsRouteAndEndTheirTier : Prop :=
  (∀ (sn : Snapshot) (l : LayoutTables) (harm : Bool) (work : List SolRec), sweepOnce sn l harm work =
    (List.range l.header.passageCount).foldl (fun a p =>
      match passagePenalty sn l harm p with
      | none => a
      | some n =>
        match (passageOf l p).direction with
        | .aToB => travel sn.routeCeiling p ((passageOf l p).length + n) (passageOf l p).endA (passageOf l p).endB a
        | .bToA => travel sn.routeCeiling p ((passageOf l p).length + n) (passageOf l p).endB (passageOf l p).endA a
        | .twoWay => travel sn.routeCeiling p ((passageOf l p).length + n) (passageOf l p).endB (passageOf l p).endA
            (travel sn.routeCeiling p ((passageOf l p).length + n) (passageOf l p).endA (passageOf l p).endB a)) ⟨work, false⟩) ∧
  (∀ (ceiling p step u v : Nat) (a : SweepAcc), ∀ t, t = travel ceiling p step u v a →
    ∀ ru, ru = a.work.getD u SolRec.unreachable → ∀ rv, rv = a.work.getD v SolRec.unreachable →
    ((ru.tier = .target ∨ ru.tier = .safe ∨ rv.cost = 65535 ∨ ceiling < rv.cost + step) → t = a) ∧
    (ru.tier ≠ .target → ru.tier ≠ .safe → rv.cost ≠ 65535 → rv.cost + step ≤ ceiling →
      ((rv.cost + step < ru.cost ∨
          (rv.cost + step = ru.cost ∧ (ru.next = some .crossing ∨ ∃ q, q < p ∧ ru.next = some (.passage q)))) →
        t = ⟨a.work.set u { ru with cost := rv.cost + step, next := some (.passage p), target := rv.target }, true⟩) ∧
      (rv.cost + step = ru.cost → ru.next = some (.passage p) →
        t = (if ru.target = rv.target then a else ⟨a.work.set u { ru with target := rv.target }, true⟩)) ∧
      (rv.cost + step = ru.cost → ru.next ≠ some .crossing → (∀ q, q ≤ p → ru.next ≠ some (.passage q)) → t = a) ∧
      (ru.cost < rv.cost + step → t = a))) ∧
  ((∀ (k : Tier) (work : List SolRec), markRouted k work =
      work.map (fun r => if r.tier = .none ∧ r.next.isSome = true then { r with tier := k } else r)) ∧
    ∀ (work : List SolRec) (e : Nat), catchment work e =
      (work.filter (fun r => decide (r.tier ≠ .none ∧ r.target = some (.exit e)))).length) ∧
  (∀ (sn : Snapshot) (l : LayoutTables) (biases : List Nat), (setupSafe sn l biases).length = l.header.placeCount ∧
    ∀ i q, (setupSafe sn l biases)[i]? = some q →
      (∀ x, (placeOf l i).kind = .exit → (placeOf l i).exitId = some x →
        q = (if (sn.exit x).entry.defined = true ∧ (sn.exit x).closed = false ∧ sn.zone (sn.exit x).entry.zone ≠ .smoke ∧
                sn.zone (sn.exit x).entry.zone ≠ .dense ∧
                (sn.exit x).entry.baseCost + (sn.exit x).bias + biases.getD x 0 + sn.placePenalty (placeOf l i).zone ≤ sn.routeCeiling
             then ⟨(sn.exit x).entry.baseCost + (sn.exit x).bias + biases.getD x 0 + sn.placePenalty (placeOf l i).zone, .target, none,
                   some (.exit x)⟩
             else SolRec.unreachable)) ∧
      (∀ b x, (placeOf l i).kind = .boundary → (placeOf l i).boundary = some b → sn.boundaries[b]? = some x →
        q = (if (boundaryOf l b).defined = true ∧ x.state = .live ∧ x.cost < sn.routeCeiling ∧
                x.cost + (boundaryOf l b).crossingCost ≤ sn.routeCeiling ∧ x.tier = .safe ∧ sn.zone (placeOf l i).zone ≠ .smoke ∧
                sn.zone (placeOf l i).zone ≠ .dense
             then ⟨x.cost + (boundaryOf l b).crossingCost, .none, some .crossing, some (.boundary b)⟩
             else SolRec.unreachable)) ∧
      (((placeOf l i).kind = .aisle ∨ (placeOf l i).kind = .junction) → q = SolRec.unreachable)) ∧
  (∀ (sn : Snapshot) (l : LayoutTables) (harm : Bool) (work : List SolRec),
    (sweepOnce sn l harm work).work.length = work.length ∧
    ∀ (p : Nat) (r : SolRec), work[p]? = some r →
      ∃ q : SolRec, (sweepOnce sn l harm work).work[p]? = some q ∧ q.cost ≤ r.cost ∧ q.tier = r.tier ∧
      ((r.tier = .target ∨ r.tier = .safe) → q = r) ∧
      (q.next ≠ r.next → ∃ k, q.next = some (.passage k) ∧ k < l.header.passageCount ∧ (passagePenalty sn l harm k).isSome = true ∧
        q.cost ≤ sn.routeCeiling)) ∧
  (∀ (sn : Snapshot) (l : LayoutTables) (harm : Bool) (work : List SolRec) (p n u v : Nat),
    p < l.header.passageCount → passagePenalty sn l harm p = some n → leads l p u v → ∀ ru rv, work[u]? = some ru → work[v]? = some rv →
    ru.tier ≠ .target → ru.tier ≠ .safe → rv.cost < 65535 → rv.cost + (passageOf l p).length + n ≤ sn.routeCeiling →
    (∃ q : SolRec, (sweepOnce sn l harm work).work[u]? = some q ∧ q.cost ≤ rv.cost + (passageOf l p).length + n) ∧
    (rv.cost + (passageOf l p).length + n < ru.cost → (sweepOnce sn l harm work).changed = true)) ∧
  (∀ (sn : Snapshot) (l : LayoutTables) (harm : Bool) (work : List SolRec) (u : Nat) (r q : SolRec),
    work[u]? = some r → (sweepOnce sn l harm work).work[u]? = some q → q ≠ r →
    ∃ p n v, p < l.header.passageCount ∧ q.next = some (.passage p) ∧ passagePenalty sn l harm p = some n ∧ leads l p u v ∧
      ∃ x : SolRec, (sweepOnce sn l harm work).work[v]? = some x ∧ x.cost + (passageOf l p).length + n ≤ q.cost) ∧
  (∀ (sn : Snapshot) (l : LayoutTables) (harm : Bool) (p : Nat),
    passageZones l p = (placeOf l (passageOf l p).endA).zone :: (placeOf l (passageOf l p).endB).zone :: (passageOf l p).via.toList ∧
    passagePenalty sn l harm p =
      (if (passageZones l p).all (fun z => (sn.contribution harm z).isSome) then
        some (((passageZones l p).eraseDups.map (fun z => (sn.contribution harm z).getD 0)).sum) else none)) ∧
  (∀ (sn : Snapshot) (harm : Bool) (z : Nat),
    (sn.zone z = .clear → sn.contribution harm z = some 0) ∧
    (sn.zone z = .watch → sn.contribution harm z = some sn.watchPenalty) ∧
    (sn.zone z = .stale → sn.contribution harm z = some sn.stalePenalty) ∧
    (sn.zone z = .isolated → sn.contribution harm z = some (if sn.zoneDefined.getD z false then sn.isolatedPenalty else 0)) ∧
    (sn.zone z = .smoke → sn.contribution harm z = (if harm then some sn.smokePenalty else none)) ∧
    (sn.zone z = .dense → sn.contribution harm z = none) ∧
    sn.placePenalty z = (if sn.zone z = .smoke ∨ sn.zone z = .dense then sn.smokePenalty else (sn.contribution harm z).getD 0)) ∧
  (∀ (sn : Snapshot) (l : LayoutTables) (biases : List Nat) (work : List SolRec) (i : Nat), i < l.header.placeCount →
    ∃ q : SolRec, (setupHarm sn l biases work)[i]? = some q ∧
      ((work.getD i SolRec.unreachable).cost ≠ 65535 → q = work.getD i SolRec.unreachable) ∧
      ((work.getD i SolRec.unreachable).cost = 65535 →
        (∀ x, (placeOf l i).kind = .exit → (placeOf l i).exitId = some x →
          q = (if (sn.exit x).entry.defined = true ∧ (sn.exit x).closed = false ∧ sn.zone (sn.exit x).entry.zone = .smoke ∧
                  (sn.exit x).entry.baseCost + (sn.exit x).bias + biases.getD x 0 + sn.placePenalty (placeOf l i).zone ≤ sn.routeCeiling
               then ⟨(sn.exit x).entry.baseCost + (sn.exit x).bias + biases.getD x 0 + sn.placePenalty (placeOf l i).zone, .target, none,
                     some (.exit x)⟩
               else SolRec.unreachable)) ∧
        (∀ b x, (placeOf l i).kind = .boundary → (placeOf l i).boundary = some b → sn.boundaries[b]? = some x →
          q = (if (boundaryOf l b).defined = true ∧ x.state = .live ∧ x.cost < sn.routeCeiling ∧
                  x.cost + (boundaryOf l b).crossingCost ≤ sn.routeCeiling ∧ sn.zone (placeOf l i).zone ≠ .dense
               then ⟨x.cost + (boundaryOf l b).crossingCost, .none, some .crossing, some (.boundary b)⟩
               else SolRec.unreachable)) ∧
        (((placeOf l i).kind = .aisle ∨ (placeOf l i).kind = .junction) → q = SolRec.unreachable))) ∧
  (∀ (s : State) (harm : Bool), s.inReset = false → s.solver.phase = (if harm then .harmSweep else .safeSweep) →
    ∀ sn, s.solver.snapshot = some sn → ∀ a, a = sweepOnce sn s.tables.layout harm s.solver.work →
    ∃ t, exec .sweep s = .next t ∧ t.solver.sweeps = s.solver.sweeps + 1 ∧ t.counters = (count .sweeps none s).counters ∧
      t.solver.snapshot = some sn ∧ t.solver.pending = s.solver.pending ∧ t.solver.committed = s.solver.committed ∧
      t.solver.generation = s.solver.generation ∧ t.solver.restarts = s.solver.restarts ∧
      (a.changed = true → s.solver.tierSweeps < s.tables.layout.header.placeCount →
        t.solver.work = a.work ∧ t.solver.phase = s.solver.phase ∧ t.solver.tierSweeps = s.solver.tierSweeps + 1 ∧
        t.solver.biases = s.solver.biases ∧ t.solver.rounds = s.solver.rounds) ∧
      ((a.changed = false ∨ s.tables.layout.header.placeCount ≤ s.solver.tierSweeps) → harm = false →
        (setupHarm sn s.tables.layout s.solver.biases (markRouted .safe a.work)).all SolRec.reached = false →
        t.solver.phase = .harmSweep ∧ t.solver.tierSweeps = 0 ∧ t.solver.biases = s.solver.biases ∧
        t.solver.work = setupHarm sn s.tables.layout s.solver.biases (markRouted .safe a.work)) ∧
      ((a.changed = false ∨ s.tables.layout.header.placeCount ≤ s.solver.tierSweeps) →
        (harm = true ∨
          (setupHarm sn s.tables.layout s.solver.biases (markRouted .safe a.work)).all SolRec.reached = true) →
        ∀ w, w = markRouted .leastHarm (if harm then a.work
            else setupHarm sn s.tables.layout s.solver.biases (markRouted .safe a.work)) →
          ((∃ e, e < 32 ∧ 1 ≤ (sn.exit e).entry.catchmentLimit ∧ (sn.exit e).entry.catchmentLimit < catchment w e) →
            s.solver.rounds < sn.balanceRounds →
            t.solver.phase = .safeSweep ∧ t.solver.rounds = s.solver.rounds + 1 ∧ t.solver.tierSweeps = 0 ∧
            (∀ e, e < 32 → t.solver.biases.getD e 0 = s.solver.biases.getD e 0 +
              (if 1 ≤ (sn.exit e).entry.catchmentLimit ∧ (sn.exit e).entry.catchmentLimit < catchment w e
               then sn.balanceStep else 0)) ∧
            t.solver.work = setupSafe sn s.tables.layout t.solver.biases) ∧
          (((∀ e, e < 32 → 1 ≤ (sn.exit e).entry.catchmentLimit → catchment w e ≤ (sn.exit e).entry.catchmentLimit) ∨
              sn.balanceRounds ≤ s.solver.rounds) →
            t.solver.phase = .select ∧ t.solver.work = w ∧ t.solver.rounds = s.solver.rounds ∧ t.solver.biases = s.solver.biases ∧
            t.solver.catchments = (List.range 32).map (catchment w))) ∧
      KeepsAllBut [.solver, .counters, .notices] s t)

/-- COMMIT replaces the committed solution by the working one with its summary, advances the generation by one, counts SOLVE_COMMIT, sets the
restart count to 0 and restarts the recheck timer; with the pending flag set the next solve begins at TAKE, else the phase is IDLE. ROUTE_LOST
is latched where the NONE count goes from 0 to 1 or more. The selections reach the signs and the hazard reference is the snapshot's. For
SOLVE_EXIT each exit has its catchment, its bias and its tier as a target: none where its target cost is above the route ceiling; an exit that
no EXIT place names has the tier of its entry, and the tiers are coded by log 20. Then the presentation rule is applied and every sign
evaluated, in sign index order, and the router's own adverts are computed from the records committed. -/
def Obligations.CommitInstallsTheSolution : Prop :=
  (∀ (l : LayoutTables) (e p : Nat), exitPlace l e = some p ↔
    (p < l.header.placeCount ∧ (placeOf l p).kind = .exit ∧ (placeOf l p).exitId = some e ∧
      ∀ q, q < p → (placeOf l q).kind = .exit → (placeOf l q).exitId ≠ some e)) ∧
  (∀ (sn : Snapshot) (e : Nat), sn.exitTier e =
    (if (sn.exit e).entry.defined = true ∧ (sn.exit e).closed = false ∧ sn.zone (sn.exit e).entry.zone ≠ .dense
     then (if sn.zone (sn.exit e).entry.zone = .smoke then 2 else 1) else 0)) ∧
  ∀ s : State, s.canonical = true → s.inReset = false → s.solver.phase = .commit → ∀ sn, s.solver.snapshot = some sn →
    ∃ t c, exec .solveCommit s = .next t ∧ t.solver.committed = some c ∧ c.records = s.solver.work ∧
      c.summary.nTarget = (s.solver.work.filter (fun r => decide (r.tier = .target))).length ∧
      c.summary.nSafe = (s.solver.work.filter (fun r => decide (r.tier = .safe))).length ∧
      c.summary.nLeastHarm = (s.solver.work.filter (fun r => decide (r.tier = .leastHarm))).length ∧
      c.summary.nNone = (s.solver.work.filter (fun r => decide (r.tier = .none))).length ∧
      c.summary.faceGaps = (s.solver.workSelections.filter (fun x => decide (x.kind = .gap))).length ∧
      c.summary.rounds = s.solver.rounds ∧ c.summary.sweeps = s.solver.sweeps ∧ c.summary.restarts = s.solver.restarts ∧
      (∀ e, e < 32 → ∃ x, c.exits[e]? = some x ∧ x.catchment = s.solver.catchments.getD e 0 ∧ x.bias = s.solver.biases.getD e 0 ∧
        (∀ p, exitPlace s.tables.layout e = some p → ∀ cost,
          cost = (sn.exit e).entry.baseCost + (sn.exit e).bias + s.solver.biases.getD e 0 +
            sn.placePenalty (placeOf s.tables.layout p).zone →
          (x.tier = 1 ↔ (sn.exit e).entry.defined = true ∧ (sn.exit e).closed = false ∧ cost ≤ sn.routeCeiling ∧
            sn.zone (sn.exit e).entry.zone ≠ .smoke ∧ sn.zone (sn.exit e).entry.zone ≠ .dense) ∧
          (x.tier = 2 ↔ (sn.exit e).entry.defined = true ∧ (sn.exit e).closed = false ∧ cost ≤ sn.routeCeiling ∧
            sn.zone (sn.exit e).entry.zone = .smoke)) ∧
        (exitPlace s.tables.layout e = none → x.tier = sn.exitTier e)) ∧ c.exits.length = 32 ∧
      t.solver.generation = s.solver.generation + 1 ∧ t.counters = (count .solveCommit none s).counters ∧
      t.solver.restarts = 0 ∧ t.solver.recheck = some (s.tables.params.recheckPeriod * 1000) ∧ t.solver.snapshot = none ∧
      t.solver.phase = (if s.solver.pending then .take else .idle) ∧
      t.solver.pending = s.solver.pending ∧
      (noneCount s.solver = 0 → 1 ≤ c.summary.nNone → (causeRec t 2).latched = true ∧ (causeRec t 2).detail = 0) ∧
      (1 ≤ noneCount s.solver ∨ c.summary.nNone = 0 → causeRec t 2 = causeRec s 2) ∧
      t.signs.selections = some s.solver.workSelections ∧ t.signs.hazardRef = sn.zones ∧
      (∀ i, i < signsInUse s → (signRt t i).desired = presentation t i) ∧
      (∀ u, u = presentAll { s with signs := { s.signs with selections := some s.solver.workSelections, hazardRef := sn.zones } } →
        t.signs.records = u.signs.records ∧ t.signs.forced = u.signs.forced ∧ t.signs.ordinary = u.signs.ordinary ∧
        t.signs.refreshPtr = u.signs.refreshPtr ∧ t.signs.defaultSlot = u.signs.defaultSlot) ∧
      t.boundaries = (ownAdverts s.solver.work s).boundaries ∧
      KeepsAllBut [.solver, .signs, .boundaries, .notices, .counters] s t

/-- The generation advances by exactly one, modulo 65536, at each commit; POWER and PIN set it to 0; nothing else changes it, so the first
commit after them installs 1. STATUS_READ page 1, captures and NOTICE telegrams carry it. -/
def Obligations.GenerationCountsCommits : Prop :=
  (∀ s : State, s.inReset = false → s.solver.phase = .commit → s.solver.snapshot.isSome = true →
    ∃ t, exec .solveCommit s = .next t ∧ t.solver.committed.isSome = true ∧ t.solver.generation = s.solver.generation + 1) ∧
  (65535#16 + 1 = 0) ∧ ((0 : BitVec 16) + 1 = 1) ∧
  (∀ s : State, (∃ t, exec .powerReset s = .next t ∧ t.solver.generation = 0) ∧
    (∃ t, exec .pinReset s = .next t ∧ t.solver.generation = 0)) ∧
  (∀ (c : Instr) (s : State), c ≠ .powerReset → c ≠ .pinReset →
    (c ≠ .solveCommit ∨ s.inReset = true ∨ s.solver.phase ≠ .commit ∨ s.solver.snapshot = none) →
    ∃ t, exec c s = .next t ∧ t.solver.generation = s.solver.generation) ∧
  (∀ s : State, s.pending = [] → ∃ t, step s = .next t ∧ t.solver.generation = s.solver.generation) ∧
  (∀ s : State, ((page1 s).drop 1).take 2 = num2 s.solver.generation.toNat) ∧
  (∀ (g : Trigger) (s : State), (captureOf g s).generation = s.solver.generation) ∧
  (∀ (s : State) (n : Nat), ((noticePayload s n).drop 3).take 2 = num2 s.solver.generation.toNat)

/-- Every step keeps the working solution sound: no record leads over a passage that its tier bars in the solve's snapshot. Hence in every
committed solution a SAFE route uses no passage touching a zone that was SMOKE or DENSE in the snapshot, and no route one touching a DENSE
zone; a TARGET place has no next. -/
def Obligations.RoutesAvoidSmokeAndDenseZones : Prop :=
  (∀ s : State, s.lifecycle = true → s.workSound = true → ∃ t, step s = .next t ∧ t.workSound = true) ∧
  (∀ s : State, s.inReset = false → s.workSound = true → s.solver.phase = .commit → ∀ sn, s.solver.snapshot = some sn →
    ∃ t c, exec .solveCommit s = .next t ∧ t.solver.committed = some c ∧
      ∀ r, r ∈ c.records → (r.tier = .target → r.next = none) ∧ ∀ p, r.over = some p → ∀ z, z ∈ passageZones s.tables.layout p →
        (r.tier = .safe → sn.zone z ≠ .smoke ∧ sn.zone z ≠ .dense) ∧ (r.tier = .leastHarm → sn.zone z ≠ .dense))

/-! ### Signs and boundaries -/

/-- An evaluation takes the first case of Table 4-4: desired absent, or equal to the commanded one in face, sign mode, phase, brightness and
tone: HELD clear, out of the queue; same face: HELD clear, into the ordinary segment; face differs and safety-forced: HELD clear, to the tail
of the forced segment; face differs with the hold timer stopped: HELD clear, into the ordinary segment; with it running: HELD set, out of the
queue. A sign already in its segment keeps its place, and no other sign changes. A face change is safety-forced where the commanded face leads
toward a zone that is SMOKE or DENSE in the hazard reference, where a ROUTE replaces a presentation that is none, or where the tier worsens.
-/
def Obligations.EvaluationFollowsTheTable : Prop :=
  (∀ (s : State) (i : Nat) (c : Option Presentation) (d : Presentation), safetyForced s i c d = true ↔
    ((1 ≤ commandedFace c ∧ ∃ z, z ∈ faceZones s.tables.layout i (commandedFace c) ∧
        (s.signs.hazardRef.getD z .clear = .smoke ∨ s.signs.hazardRef.getD z .clear = .dense)) ∨
      (d.basis = .route ∧ ∀ p, c = some p → p.basis ≠ .route) ∨ (∃ p, c = some p ∧ tierRank p.tier < tierRank d.tier))) ∧
  ([Tier.target, .safe, .leastHarm, .none].map tierRank = [0, 1, 2, 3] ∧
    ∀ (l : LayoutTables) (i f : Nat), 1 ≤ f →
      (∀ p, (signOf l i).faces[f - 1]? = some (.passage p) → faceZones l i f = passageZones l p) ∧
      ((signOf l i).faces[f - 1]? = some .crossing → faceZones l i f = [(placeOf l (signOf l i).place).zone])) ∧
  ∀ (s : State) (i : Nat), s.canonical = true → ∀ t, t = evaluate i s →
    KeepsAllBut [.signs] s t ∧ (∀ j, j ≠ i → signRt t j = signRt s j) ∧ t.signs.selections = s.signs.selections ∧
    t.signs.refreshPtr = s.signs.refreshPtr ∧ t.signs.refreshTimer = s.signs.refreshTimer ∧
    ((signRt s i).desired = none →
      signRt t i = { signRt s i with held := false } ∧ t.signs.forced = s.signs.forced.filter (fun j => decide (j ≠ i)) ∧
      t.signs.ordinary = s.signs.ordinary.filter (fun j => decide (j ≠ i))) ∧
    (∀ d, (signRt s i).desired = some d →
      (∀ c, (signRt s i).commanded = some c → d.face = c.face → d.mode = c.mode → d.phase = c.phase → d.brightness = c.brightness →
        d.tone = c.tone →
        signRt t i = { signRt s i with held := false } ∧ t.signs.forced = s.signs.forced.filter (fun j => decide (j ≠ i)) ∧
        t.signs.ordinary = s.signs.ordinary.filter (fun j => decide (j ≠ i))) ∧
      ((∀ c, (signRt s i).commanded = some c →
          ¬(d.face = c.face ∧ d.mode = c.mode ∧ d.phase = c.phase ∧ d.brightness = c.brightness ∧ d.tone = c.tone)) →
        ((d.face = commandedFace (signRt s i).commanded ∨
            (safetyForced s i (signRt s i).commanded d = false ∧ (signRt s i).hold = none)) →
          signRt t i = { signRt s i with held := false } ∧ t.signs.forced = s.signs.forced ∧
          t.signs.ordinary = (if i ∈ s.signs.forced ∨ i ∈ s.signs.ordinary then s.signs.ordinary else s.signs.ordinary ++ [i])) ∧
        (d.face ≠ commandedFace (signRt s i).commanded → safetyForced s i (signRt s i).commanded d = true →
          signRt t i = { signRt s i with held := false } ∧
          t.signs.forced = (if i ∈ s.signs.forced then s.signs.forced else s.signs.forced ++ [i]) ∧
          t.signs.ordinary = (if i ∈ s.signs.forced then s.signs.ordinary
                              else s.signs.ordinary.filter (fun j => decide (j ≠ i)))) ∧
        (d.face ≠ commandedFace (signRt s i).commanded → safetyForced s i (signRt s i).commanded d = false →
          (signRt s i).hold.isSome = true →
          signRt t i = { signRt s i with held := true } ∧ t.signs.forced = s.signs.forced.filter (fun j => decide (j ≠ i)) ∧
          t.signs.ordinary = s.signs.ordinary.filter (fun j => decide (j ≠ i)))))

/-- A hold timer that expires stops and its sign is evaluated: a HELD sign with a different face, not forced, joins the tail of the ordinary
segment, and one whose desired presentation equals the commanded one is queued nowhere. The refresh timer's expiry makes refresh due; the
default repeat timer's places a SHOW_DEFAULT while addressed and restarts. A refresh SHOW restarts the confirm timer and moves the refresh
pointer past its sign; a SHOW_DEFAULT taken makes the commanded presentations of the signs in use absent, evaluates each sign that had one, in
sign index order, and restarts the default repeat timer while it runs. The refresh timer runs while the layout is ACTIVE with a sign in it and
the mode is not MAINT, the default repeat timer while the mode is MAINT, the layout NONE and some zone SMOKE or DENSE: each starts where that
has begun to hold at the end of a step, and stands stopped where it does not hold. That this is judged once, at the end of the step, is the
model's reading (log 30); that a SHOW_DEFAULT taken evaluates the signs in index order is its choice (log 12). -/
def Obligations.SignTimersActAtExpiry : Prop :=
  (∀ s : State,
    (refreshRuns s = true ↔ (s.layout = .active ∧ 1 ≤ s.tables.layout.header.signCount ∧ s.mode.mode ≠ .maint)) ∧
    (defaultRuns s = true ↔ (s.mode.mode = .maint ∧ s.layout = .none ∧
      ∃ z, z < 64 ∧ (zoneState s z = .smoke ∨ zoneState s z = .dense)))) ∧
  (∀ before after t : State, t = settle before after →
    t.signs = { after.signs with refreshTimer := t.signs.refreshTimer, refreshDue := t.signs.refreshDue,
                                 defaultTimer := t.signs.defaultTimer } ∧
    (refreshRuns after = true → t.signs.refreshDue = after.signs.refreshDue ∧ t.signs.refreshTimer =
      (if refreshRuns before = true then after.signs.refreshTimer
       else some (after.tables.params.refreshPeriod * 1000 / after.tables.layout.header.signCount))) ∧
    (refreshRuns after = false → t.signs.refreshTimer = none ∧ t.signs.refreshDue = false) ∧
    (defaultRuns after = true → t.signs.defaultTimer =
      (if defaultRuns before = true then after.signs.defaultTimer else some (after.tables.params.refreshPeriod * 1000))) ∧
    (defaultRuns after = false → t.signs.defaultTimer = none)) ∧
  (∀ (s : State) (i : Nat), s.canonical = true → s.inReset = false → (signRt s i).hold = some 0 →
    ∃ t, exec (.holdTimerExpiry i) s = .next t ∧ (signRt t i).hold = none ∧ (∀ j, j ≠ i → signRt t j = signRt s j) ∧
      (∀ d, (signRt s i).desired = some d → d.face ≠ commandedFace (signRt s i).commanded →
        safetyForced s i (signRt s i).commanded d = false → i ∉ s.signs.forced → i ∉ s.signs.ordinary →
        signRt t i = { signRt s i with hold := none, held := false } ∧ t.signs.forced = s.signs.forced ∧
        t.signs.ordinary = s.signs.ordinary ++ [i]) ∧
      (∀ d, (signRt s i).desired = some d → ∀ c, (signRt s i).commanded = some c → samePresentation d c = true →
        signRt t i = { signRt s i with hold := none, held := false } ∧ i ∉ t.signs.forced ∧ i ∉ t.signs.ordinary) ∧
      KeepsAllBut [.signs] s t) ∧
  (∀ s : State, s.inReset = false → refreshRuns s = true → s.signs.refreshTimer = some 0 →
    ∃ t, exec .refreshTimerExpiry s = .next t ∧ t.signs.refreshDue = true ∧ t.signs.refreshTimer = none ∧ KeepsAllBut [] s t) ∧
  (∀ s : State, s.inReset = false → defaultRuns s = true → s.signs.defaultTimer = some 0 →
    ∃ t, exec .defaultRepeatExpiry s = .next t ∧ t.signs.defaultTimer = some (s.tables.params.refreshPeriod * 1000) ∧
      t.signs.defaultSlot = (addressed s || s.signs.defaultSlot) ∧ t.signs.records = s.signs.records ∧ KeepsAllBut [.signs] s t) ∧
  (∀ (s : State) (i : Nat), s.canonical = true → s.inReset = false → s.forward.tx = none → s.portB.state.isUp = true →
    firstSendable s = some (.sign (.refresh i)) → ∀ p, (signRt s i).commanded = some p →
    ∃ t, exec .arbiterTake s = .next t ∧
      signRt t i = { signRt s i with
        confirm := some s.tables.params.confirmTime
        state := if (signRt s i).state = .faulted then .faulted else .awaiting } ∧
      (∀ j, j ≠ i → signRt t j = signRt s j) ∧ t.signs.refreshPtr = (i + 1) % signsInUse s ∧ t.signs.refreshDue = false ∧
      t.signs.refreshTimer = some (s.tables.params.refreshPeriod * 1000 / s.tables.layout.header.signCount) ∧
      t.signs.forced = s.signs.forced ∧ t.signs.ordinary = s.signs.ordinary ∧
      (∃ x, t.forward.tx = some x ∧ x.telegram.dest = byte (signOf s.tables.layout i).address ∧ x.telegram.kind = 1 ∧
        x.telegram.payload = showPayload (signOf s.tables.layout i).unit p) ∧
      KeepsAllBut [.portB, .forward, .signs, .counters, .notices] s t) ∧
  (∀ s : State, s.canonical = true → s.inReset = false → s.forward.tx = none → s.portB.state.isUp = true →
    firstSendable s = some (.sign .showDefault) →
    ∃ t, exec .arbiterTake s = .next t ∧ t.signs.defaultSlot = false ∧
      (∃ x, t.forward.tx = some x ∧ x.telegram.dest = 255 ∧ x.telegram.kind = 2 ∧ x.telegram.payload = []) ∧
      (∀ i, i < signsInUse s → (signRt t i).commanded = none ∧ (signRt t i).desired = (signRt s i).desired ∧
        ((signRt s i).commanded.isSome = true →
          (signRt t i).state = .unknown ∧ (signRt t i).noReply = 0 ∧ (signRt t i).mismatch = 0 ∧ (signRt t i).confirm = none)) ∧
      (∀ u, u = (List.range (signsInUse s)).foldl (fun v i => if (signRt v i).commanded.isSome = true then
            evaluate i (setSignRt v i
              { signRt v i with commanded := none, state := .unknown, noReply := 0, mismatch := 0, confirm := none })
          else v) { s with signs := { s.signs with defaultSlot := false } } →
        t.signs.records = u.signs.records ∧ t.signs.forced = u.signs.forced ∧ t.signs.ordinary = u.signs.ordinary) ∧
      t.signs.defaultTimer = (if defaultRuns s = true then some (s.tables.params.refreshPeriod * 1000) else none) ∧
      KeepsAllBut [.portB, .forward, .signs] s t)

/-- A confirm timer that expires stops and the no-reply count rises by one, holding at 3; with the timer stopped or with time left the command
changes nothing (log 2). The state stays as it is, but that it becomes FAULTED, latching SIGN_FAULT, where it was not and a count has reached
3. A new SHOW taken for the sign restarts the timer. A STATUS for a sign in use stops the timer and is kept as confirmed. Where it shows the
commanded face and mode the sign is CONFIRMED and both counts are 0; else STATUS_MISMATCH is counted, the mismatch count rises, holding at 3,
and the sign is AWAITING, or FAULTED from the third on. Health 1 sets the lamp fault flag and health 0 clears it. A count found at 3 in a sign
that is not FAULTED makes it so (log 33). SIGN_FAULT is latched with the sign where it becomes FAULTED and where its lamp fault flag becomes
set, and not otherwise. With no commanded presentation a STATUS is kept as confirmed and compared with nothing. A STATUS too short for its
fields, with a unit above 3, or of no sign in use is only counted as a discarded take. -/
def Obligations.SignsAreConfirmedOrFaulted : Prop :=
  (∀ (s : State) (a k i : Nat), signWith s a k = some i ↔
    (s.layout = .active ∧ i < s.tables.layout.header.signCount ∧ (signOf s.tables.layout i).address = a ∧
      (signOf s.tables.layout i).unit = k ∧
      ∀ j, j < i → ¬((signOf s.tables.layout j).address = a ∧ (signOf s.tables.layout j).unit = k))) ∧
  (∀ (s : State) (m : Telegram),
    (m.payload.length < 4 ∨ (∀ unit rest, m.payload = unit :: rest → 3 < unit.toNat ∨ signWith s m.source.toNat unit.toNat = none)) →
    takeStatus m s = { s with node := { s.node with discardedTakes := min (s.node.discardedTakes + 1) 65535 } }) ∧
  (∀ (s : State) (m : Telegram), s.canonical = true →
    ∀ unit face mode health rest, m.payload = unit :: face :: mode :: health :: rest → unit.toNat ≤ 3 →
    ∀ i, signWith s m.source.toNat unit.toNat = some i → (signRt s i).commanded = none → ∀ t, t = takeStatus m s →
    signRt t i = { signRt s i with confirm := none, confirmed := some (face, mode)
                                   lampFault := if health.toNat = 1 then true else if health.toNat = 0 then false
                                                else (signRt s i).lampFault } ∧
    (∀ j, j ≠ i → signRt t j = signRt s j) ∧
    causeRec t 6 = (if health.toNat = 1 ∧ (signRt s i).lampFault = false then { causeRec s 6 with latched := true, detail := i }
                    else causeRec s 6) ∧
    KeepsAllBut [.signs, .notices] s t) ∧
  (∀ (s : State) (i : Nat), s.inReset = false → (signRt s i).confirm ≠ some 0 →
    ∃ t, exec (.confirmTimerExpiry i) s = .next t ∧ KeepsAllBut [] s t) ∧
  (∀ (s : State) (i : Nat), s.canonical = true → s.inReset = false → (signRt s i).confirm = some 0 →
    ∃ t, exec (.confirmTimerExpiry i) s = .next t ∧
      signRt t i = { signRt s i with
        confirm := none
        noReply := min ((signRt s i).noReply + 1) 3
        state := if 2 ≤ (signRt s i).noReply ∨ 3 ≤ (signRt s i).mismatch then .faulted else (signRt s i).state } ∧
      (∀ j, j ≠ i → signRt t j = signRt s j) ∧
      ((signRt s i).state ≠ .faulted → (2 ≤ (signRt s i).noReply ∨ 3 ≤ (signRt s i).mismatch) →
        causeRec t 6 = { causeRec s 6 with latched := true, detail := i }) ∧
      (((signRt s i).state = .faulted ∨ ((signRt s i).noReply < 2 ∧ (signRt s i).mismatch < 3)) → t.notices = s.notices) ∧
      KeepsAllBut [.signs, .notices] s t) ∧
  (∀ (s : State) (i : Nat), s.canonical = true → s.inReset = false → s.forward.tx = none → s.portB.state.isUp = true →
    ((firstSendable s = some (.sign (.head i)) ∧ (signRt s i).desired.isSome = true) ∨
      (firstSendable s = some (.sign (.refresh i)) ∧ (signRt s i).commanded.isSome = true)) →
    ∃ t, exec .arbiterTake s = .next t ∧ (signRt t i).confirm = some s.tables.params.confirmTime) ∧
  (∀ (s : State) (m : Telegram), s.canonical = true →
    ∀ unit face mode health rest, m.payload = unit :: face :: mode :: health :: rest → unit.toNat ≤ 3 →
    ∀ i, signWith s m.source.toNat unit.toNat = some i → ∀ c, (signRt s i).commanded = some c → ∀ t, t = takeStatus m s →
    (signRt t i).confirm = none ∧ (signRt t i).confirmed = some (face, mode) ∧ (signRt t i).commanded = some c ∧
    (signRt t i).desired = (signRt s i).desired ∧ (∀ j, j ≠ i → signRt t j = signRt s j) ∧
    (signRt t i).lampFault = (if health.toNat = 1 then true else if health.toNat = 0 then false else (signRt s i).lampFault) ∧
    ((face.toNat = c.face ∧ mode.toNat = signModeCode c.mode) →
      (signRt t i).state = .confirmed ∧ (signRt t i).noReply = 0 ∧ (signRt t i).mismatch = 0 ∧ t.counters = s.counters) ∧
    (¬(face.toNat = c.face ∧ mode.toNat = signModeCode c.mode) →
      (signRt t i).mismatch = min ((signRt s i).mismatch + 1) 3 ∧ (signRt t i).noReply = (signRt s i).noReply ∧
      (signRt t i).state = (if (signRt s i).state = .faulted ∨ 2 ≤ (signRt s i).mismatch ∨ 3 ≤ (signRt s i).noReply
                            then .faulted else .awaiting) ∧
      t.counters = (count .statusMismatch none s).counters) ∧
    causeRec t 6 =
      (if (health.toNat = 1 ∧ (signRt s i).lampFault = false) ∨
          (¬(face.toNat = c.face ∧ mode.toNat = signModeCode c.mode) ∧ (signRt s i).state ≠ .faulted ∧
            (2 ≤ (signRt s i).mismatch ∨ 3 ≤ (signRt s i).noReply))
       then { causeRec s 6 with latched := true, detail := i } else causeRec s 6) ∧
    KeepsAllBut [.signs, .notices, .counters] s t)

/-- A boundary's age timer that has run out makes it EXPIRED, its heard cost and tier kept, latches BOUNDARY_CHANGED and hands a change to the
solver. A matched ADVERT restarts the age timer and, where state, cost or tier change, is handed on; one from another source than the peer is
rejected and counted. The advert period restarts, and while addressed every boundary with a computed advert joins the due set. At a commit the
advert of a boundary is its place's cost and tier, or 65535 where there is no route or the route leaves through it; each defined boundary of
the active layout takes its advert from the records committed, and becomes due where it differs from the last. An ADVERT that arrives as a
broadcast at an addressed router, from neither its own nor its retired address, is taken: one of under four bytes, with an id outside 1 to 63,
with a tier code above 1, or with the layout not ACTIVE changes nothing, and so does one whose id no defined boundary of the active layout
holds. -/
def Obligations.AdvertsAreHeardSentAndExpire : Prop :=
  (∀ (s : State) (m : Telegram),
    ((m.payload.length < 4 ∨ s.layout ≠ .active) → takeAdvert m s = s) ∧
    (s.layout = .active → ∀ id hi lo code rest, m.payload = id :: hi :: lo :: code :: rest →
      ((id.toNat = 0 ∨ 63 < id.toNat ∨ 1 < code.toNat) → takeAdvert m s = s) ∧
      (1 ≤ id.toNat → id.toNat ≤ 63 → code.toNat ≤ 1 →
        takeAdvert m s = matchAdvert m.source.toNat id.toNat (word16 hi lo) (if code.toNat = 0 then .safe else .leastHarm) s))) ∧
  (∀ (s : State) (id b : Nat), boundaryWithId s id = some b ↔
    (s.layout = .active ∧ b < 8 ∧ (boundaryOf s.tables.layout b).defined = true ∧ (boundaryOf s.tables.layout b).id = id ∧
      ∀ k, k < b → ¬((boundaryOf s.tables.layout k).defined = true ∧ (boundaryOf s.tables.layout k).id = id))) ∧
  (∀ (s : State) (source id cost : Nat) (tier : AdvertTier), boundaryWithId s id = none → matchAdvert source id cost tier s = s) ∧
  (∀ (s : State) (bs : List Byte), s.inReset = false → addressed s = true → s.node.address ≤ 250 → s.portA.state.isUp = true →
    ∀ m, parseTelegram bs = .good m → ∀ n, arrivalSlot s m = some n → isOwn s m = false → isRetired s m = false →
    m.isKind .ctl 2 = true → m.dest.toNat = 255 →
    ∃ t, exec (.telegramArrival bs) s = .next t ∧ t.boundaries = (takeAdvert m s).boundaries ∧ t.solver = (takeAdvert m s).solver ∧
      KeepsAllBut [.portA, .portB, .forward, .boundaries, .solver, .counters, .notices] s t) ∧
  (∀ s : State, s.inReset = false → s.solver.phase = .commit → s.solver.snapshot.isSome = true →
    ∃ t, exec .solveCommit s = .next t ∧ t.boundaries = (ownAdverts s.solver.work s).boundaries ∧
      KeepsAllBut [.solver, .signs, .boundaries, .notices, .counters] s t) ∧
  (∀ (s : State) (records : List SolRec), s.canonical = true →
    (∀ b, (8 ≤ b ∨ s.layout ≠ .active ∨ (boundaryOf s.tables.layout b).defined = false) →
      boundaryRt (ownAdverts records s) b = boundaryRt s b) ∧
    (ownAdverts records s).boundaries.period = s.boundaries.period ∧ KeepsAllBut [.boundaries] s (ownAdverts records s)) ∧
  (∀ (s : State) (b : Nat), s.canonical = true → s.inReset = false → (boundaryRt s b).age = some 0 →
    ∃ t, exec (.ageTimerExpiry b) s = .next t ∧ boundaryRt t b = { boundaryRt s b with age := none, state := .expired } ∧
      (∀ k, k ≠ b → boundaryRt t k = boundaryRt s k) ∧ causeRec t 8 = { causeRec s 8 with latched := true, detail := b } ∧
      t.solver = (solveTrigger false s).solver ∧ KeepsAllBut [.boundaries, .notices, .solver] s t) ∧
  (∀ (s : State) (source id cost : Nat) (tier : AdvertTier), s.canonical = true → ∀ b, boundaryWithId s id = some b →
    (source ≠ (boundaryOf s.tables.layout b).peer → matchAdvert source id cost tier s = count .advertRejected none s) ∧
    (source = (boundaryOf s.tables.layout b).peer →
      boundaryRt (matchAdvert source id cost tier s) b =
        { boundaryRt s b with age := some (3 * s.tables.params.advertPeriod * 1000), state := .live, heardCost := cost,
                              heardTier := tier } ∧
      (∀ k, k ≠ b → boundaryRt (matchAdvert source id cost tier s) k = boundaryRt s k) ∧
      (matchAdvert source id cost tier s).solver =
        (if (boundaryRt s b).state = .live ∧ (boundaryRt s b).heardCost = cost ∧ (boundaryRt s b).heardTier = tier then s.solver
         else (solveTrigger false s).solver) ∧
      KeepsAllBut [.boundaries, .solver] s (matchAdvert source id cost tier s))) ∧
  (∀ s : State, s.canonical = true → s.inReset = false → s.boundaries.period = some 0 →
    ∃ t, exec .advertPeriodExpiry s = .next t ∧ t.boundaries.period = some (s.tables.params.advertPeriod * 1000) ∧
      (∀ b, b < 8 → boundaryRt t b =
        { boundaryRt s b with due := (boundaryRt s b).due || ((boundaryRt s b).computed.isSome && addressed s) }) ∧
      KeepsAllBut [.boundaries] s t) ∧
  (∀ (s : State) (records : List SolRec) (b : Nat), s.canonical = true → s.layout = .active → b < 8 →
    (boundaryOf s.tables.layout b).defined = true →
    ∀ r, r = records.getD (boundaryOf s.tables.layout b).place SolRec.unreachable →
    ∀ a, a = (if r.tier = .none ∨ (r.tier ≠ .target ∧ r.target = some (.boundary b)) then ⟨65535, .safe⟩
         else ⟨r.cost, if r.tier = .leastHarm then .leastHarm else .safe⟩) →
    boundaryRt (ownAdverts records s) b =
      { boundaryRt s b with
        computed := some a
        due := (boundaryRt s b).due || (addressed s && decide ((boundaryRt s b).last ≠ some a)) })

/-- Every step keeps the update queue sound: no sign stands in it twice, and every sign in it has a desired presentation. -/
def Obligations.UpdateQueueStaysSound : Prop :=
  ∀ s : State, s.canonical = true → s.signs.queueOnce → s.queuePresent →
    ∃ t, step s = .next t ∧ t.signs.queueOnce ∧ t.queuePresent

/-! ### Management requests -/

/-- The end of an execution: a broadcast request, and any request of an unaddressed router, leaves the queue with no response; for any other a
response with kind, status and fields is placed for its requester, and its entry stays until that is sent. A kind not in the table is answered
UNKNOWN_KIND, a write to a table that cannot be written BAD_TABLE, a payload too short for its fields BAD_FIELD (by which row is the model's
choice, log 3; that a short write to such a table is answered BAD_TABLE is log 22). A due completion response is placed once the slot is
empty, or discarded while unaddressed. -/
def Obligations.RequestsAreAnswered : Prop :=
  (∀ (e : ReqEntry) (a : Answer),
    ((e.broadcast = true ∨ addressed a.state = false) →
      finish e a = { a.state with requests := { a.state.requests with queue := a.state.requests.queue.tail } }) ∧
    (e.broadcast = false → addressed a.state = true →
      finish e a = { a.state with requests := { a.state.requests with
        slot := some ⟨e.requester, e.payload.headD 0 :: byte (statusCode a.status) :: a.fields, false⟩ } })) ∧
  (∀ (e : ReqEntry) (s : State), Begins .unknownKind e s → Answers .unknownKind s e .unknownKind [] s) ∧
  (∀ (e : ReqEntry) (s : State), Begins .entryWriteOtherTable e s → fieldsOf e ≠ [] →
    Answers .entryWriteOtherTable s e .badTable [] s) ∧
  (∀ x, x ∈ ([(.statusRead, .statusRead, 1), (.entryRead, .entryRead, 3), (.entryWriteZone, .entryWriteZone, 7),
      (.entryWriteDetector, .entryWriteDetector, 7), (.entryWriteExit, .entryWriteExit, 9),
      (.entryWriteParameter, .entryWriteParameter, 5), (.entryWriteLayoutHeader, .entryWriteLayoutHeader, 8),
      (.entryWritePlace, .entryWritePlace, 7), (.entryWritePassage, .entryWritePassage, 9), (.entryWriteSign, .entryWriteSign, 18),
      (.entryWriteBoundary, .entryWriteBoundary, 9), (.entryWriteOtherTable, .entryWriteOtherTable, 1), (.zoneReset, .zoneReset, 1),
      (.zoneIsolateBadSetting, .zoneIsolateBadSetting, 2), (.zoneConfirm, .zoneConfirm, 1), (.exitSet, .exitSet, 4),
      (.noticeSet, .noticeSet, 3), (.noticeClear, .noticeClear, 2), (.counterSet, .counterSet, 5)] : List (Instr × ReqRow × Nat)) →
    ∀ (e : ReqEntry) (s : State), Begins x.2.1 e s → (fieldsOf e).length < x.2.2 → Answers x.1 s e .badField [] s) ∧
  (∀ s : State, s.inReset = false → s.requests.slot = none → ∀ r, s.requests.completionDue = some r →
    ∃ t, exec .completionResponsePlacement s = .next t ∧
      t.requests = { s.requests with completionDue := none, slot := if addressed s then some r else none } ∧
      KeepsAllBut [.requests] s t)

/-- A write to a zone, detector, exit or parameter entry is judged in the order BAD_INDEX, BUSY, WRONG_MODE, BAD_FIELD, HAZARD_LATCHED, and
changes nothing where it is refused. An accepted one stores the entry: a zone becomes STALE and is recomputed; a detector's record is reset,
its silence timer started where it is in use and Port A up, and the zones it leaves and joins are recomputed; an exit's usability is
recomputed and a change handed to the solver; a parameter takes its value, and those the solver reads are handed to it. A zone entry is bad
where a field is out of range, or where it is not defined and a detector in use or a defined exit names the zone; a detector entry where it is
in use and its zone is not defined or another one in use has its address and channel; an exit entry where it is defined and its zone is not. A
write touches a latched zone where a zone entry's is latched, or the present or new zone of a detector in use or of a defined exit. -/
def Obligations.InstallationWritesAreJudgedInOrder : Prop :=
  (∀ (s : State) (i : Nat) (bs : List Byte),
    (∀ e : ZoneEntry, acceptZone s i bs = some e ↔
      (parseZoneEntry bs = some e ∧ (e.defined = true ∨
        ((∀ j, j < 256 → (detectorEntry s j).address ≠ 0 → (detectorEntry s j).zone ≠ i) ∧
          ∀ x, x < 32 → (exitEntry s x).defined = true → (exitEntry s x).zone ≠ i)))) ∧
    (∀ d : DetectorEntry, acceptDetector s i bs = some d ↔
      (parseDetectorEntry bs = some d ∧ (d.address = 0 ∨
        ((zoneEntry s d.zone).defined = true ∧
          ∀ j, j < 256 → j ≠ i → (detectorEntry s j).address ≠ 0 →
            ¬((detectorEntry s j).address = d.address ∧ (detectorEntry s j).channel = d.channel))))) ∧
    (∀ x : ExitEntry, acceptExit s i bs = some x ↔
      (parseExitEntry bs = some x ∧ (x.defined = false ∨ (zoneEntry s x.zone).defined = true)))) ∧
  (∀ (s : State) (i : Nat),
    (∀ z, zoneLatched s z = true ↔ ((zoneRt s z).smoke = true ∨ (zoneRt s z).dense = true)) ∧
    (∀ d : DetectorEntry, detectorLatched s i d = true ↔
      (((detectorEntry s i).address ≠ 0 ∧ zoneLatched s (detectorEntry s i).zone = true) ∨
        (d.address ≠ 0 ∧ zoneLatched s d.zone = true))) ∧
    (∀ x : ExitEntry, exitLatched s i x = true ↔
      (((exitEntry s i).defined = true ∧ zoneLatched s (exitEntry s i).zone = true) ∨
        (x.defined = true ∧ zoneLatched s x.zone = true))) ∧
    (tablesBusy s = true ↔ (s.store.op ≠ .idle ∨ s.layout = .validating ∨ s.layout = .reloading))) ∧
  (∀ v : Nat,
    (∀ x, x ∈ [(0, 0, 250), (1, 0, 1), (2, 10, 300), (3, 10, 600), (4, 0, 1000), (5, 0, 1000), (6, 0, 1000), (7, 1, 5000),
        (8, 100, 65534), (9, 2, 60), (10, 5, 60), (11, 100, 2000), (12, 100, 1000)] ++
        [(13, 1, 50), (14, 1, 15), (15, 50, 1000), (16, 1, 30), (17, 10, 600), (18, 0, 4), (19, 0, 3), (20, 1, 1000), (21, 50, 2000),
        (23, 20, 500), (24, 100, 5000), (25, 5, 100)] →
      (paramInRange x.1 v = true ↔ (x.2.1 ≤ v ∧ v ≤ x.2.2))) ∧
    (paramInRange 22 v = true ↔ (v = 0 ∨ (10 ≤ v ∧ v ≤ 3600)))) ∧
  (∀ (e : ReqEntry) (s : State), ∀ f, f = fieldsOf e → ∀ i, i = at2 f 1 →
    ∀ k, k ∈ installationCases s i (f.drop 3) → Begins k.row e s → k.bytes ≤ f.length →
    (k.entries ≤ i → Answers k.command s e .badIndex [] s) ∧
    (i < k.entries →
      (tablesBusy s = true → Answers k.command s e .busy [] s) ∧
      (tablesBusy s = false → s.mode.mode ≠ .maint → Answers k.command s e .wrongMode [] s) ∧
      (tablesBusy s = false → s.mode.mode = .maint → k.bad = true → Answers k.command s e .badField [] s) ∧
      (tablesBusy s = false → s.mode.mode = .maint → k.bad = false → k.latched = true →
        Answers k.command s e .hazardLatched [] s))) ∧
  (∀ (e : ReqEntry) (s : State), s.canonical = true → tablesBusy s = false → s.mode.mode = .maint →
    ∀ f, f = fieldsOf e → ∀ i, i = at2 f 1 →
    (Begins .entryWriteZone e s → 7 ≤ f.length → i < 64 → zoneLatched s i = false → ∀ z, acceptZone s i (f.drop 3) = some z →
      ∃ u, Answers .entryWriteZone s e .ok (f.take 3) u ∧ zoneEntry u i = z ∧ (∀ j, j ≠ i → zoneEntry u j = zoneEntry s j) ∧
        (zoneRt u i).stale = true ∧ (zoneRt u i).isolate = (zoneRt s i).isolate ∧
        zoneState u i = deriveZone (zoneRt u i) (zoneAllOut u i) ∧ (∀ j, j ≠ i → zoneRt u j = zoneRt s j) ∧
        u = recompute i (setZoneRt { s with tables := u.tables } i { zoneRt s i with stale := true }) ∧
        u.hazard.detectors = s.hazard.detectors ∧ u.tables.detectors = s.tables.detectors ∧ u.tables.exits = s.tables.exits ∧
        u.tables.params = s.tables.params ∧ u.tables.layout = s.tables.layout ∧
        KeepsAllBut [.tables, .hazard, .notices, .solver, .mode, .signs, .cadence, .captures, .layout, .store, .counters] s u) ∧
    (Begins .entryWriteDetector e s → 7 ≤ f.length → i < 256 → ∀ d, acceptDetector s i (f.drop 3) = some d →
      detectorLatched s i d = false →
      ∃ u, Answers .entryWriteDetector s e .ok (f.take 3) u ∧ detectorEntry u i = d ∧
        (∀ j, j ≠ i → detectorEntry u j = detectorEntry s j) ∧
        detectorRt u i = { DetectorRt.reset with
          silence := if d.address ≠ 0 ∧ s.portA.state.isUp = true then some (s.tables.params.silenceTime * 1000) else none } ∧
        (∀ j, j ≠ i → detectorRt u j = detectorRt s j) ∧
        ((detectorEntry s i).address ≠ 0 →
          zoneState u (detectorEntry s i).zone =
            deriveZone (zoneRt u (detectorEntry s i).zone) (zoneAllOut u (detectorEntry s i).zone)) ∧
        (d.address ≠ 0 → zoneState u d.zone = deriveZone (zoneRt u d.zone) (zoneAllOut u d.zone)) ∧
        (∀ z, ((detectorEntry s i).address = 0 ∨ z ≠ (detectorEntry s i).zone) → (d.address = 0 ∨ z ≠ d.zone) →
          zoneRt u z = zoneRt s z) ∧
        (∀ w, w = setDetectorRt { s with tables := u.tables } i (detectorRt u i) →
          ∀ v, v = (if (detectorEntry s i).address ≠ 0 then recompute (detectorEntry s i).zone w else w) →
          u = (if d.address ≠ 0 then recompute d.zone v else v)) ∧
        u.tables.zones = s.tables.zones ∧ u.tables.exits = s.tables.exits ∧ u.tables.params = s.tables.params ∧
        u.tables.layout = s.tables.layout ∧
        KeepsAllBut [.tables, .hazard, .notices, .solver, .mode, .signs, .cadence, .captures, .layout, .store, .counters] s u) ∧
    (Begins .entryWriteExit e s → 9 ≤ f.length → i < 32 → ∀ x, acceptExit s i (f.drop 3) = some x → exitLatched s i x = false →
      ∃ u, Answers .entryWriteExit s e .ok (f.take 3) u ∧ exitEntry u i = x ∧ (∀ j, j ≠ i → exitEntry u j = exitEntry s j) ∧
        exitRt u i = { exitRt s i with usability := usabilityOf x.defined (exitRt s i).closed (zoneState s x.zone) } ∧
        (∀ j, j ≠ i → exitRt u j = exitRt s j) ∧ u.solver = (solveTrigger false s).solver ∧
        causeRec u 4 = (if (exitRt u i).usability = (exitRt s i).usability then causeRec s 4
                        else { causeRec s 4 with latched := true, detail := i }) ∧ (∀ n, n ≠ 4 → causeRec u n = causeRec s n) ∧
        u.hazard.zones = s.hazard.zones ∧ u.hazard.detectors = s.hazard.detectors ∧ u.tables.zones = s.tables.zones ∧
        u.tables.detectors = s.tables.detectors ∧ u.tables.params = s.tables.params ∧ u.tables.layout = s.tables.layout ∧
        KeepsAllBut [.tables, .hazard, .notices, .solver] s u) ∧
    (Begins .entryWriteParameter e s → 5 ≤ f.length → i < 26 → paramInRange i (at2 f 3) = true →
      ∃ u, Answers .entryWriteParameter s e .ok (f.take 3) u ∧ paramGet u.tables.params i = at2 f 3 ∧
        (∀ j, j ≠ i → paramGet u.tables.params j = paramGet s.tables.params j) ∧ u.tables.zones = s.tables.zones ∧
        u.tables.detectors = s.tables.detectors ∧ u.tables.exits = s.tables.exits ∧ u.tables.layout = s.tables.layout ∧
        u.solver = (if (4 ≤ i ∧ i ≤ 8) ∨ (18 ≤ i ∧ i ≤ 20) then (solveTrigger false s).solver else s.solver) ∧
        u.captures = (if i = 22 ∧ s.captures.timer = none ∧ s.mode.startWait = false ∧ 10 ≤ at2 f 3
                      then { s.captures with timer := some (at2 f 3 * 1000) } else s.captures) ∧
        KeepsAllBut [.tables, .solver, .captures] s u))

/-- A write to a layout table is judged in the order BAD_INDEX, BUSY, SEQUENCE, BAD_FIELD; an accepted one stores the entry in its table and
does nothing else. -/
def Obligations.LayoutWritesStoreAndNothingElse : Prop :=
  ∀ (e : ReqEntry) (s : State), ∀ f, f = fieldsOf e → ∀ i, i = at2 f 1 →
    ∀ k, k ∈ layoutCases s.tables.layout i (f.drop 3) → Begins k.row e s → k.bytes ≤ f.length →
    (k.entries ≤ i → Answers k.command s e .badIndex [] s) ∧
    (i < k.entries →
      (tablesBusy s = true → Answers k.command s e .busy [] s) ∧
      (tablesBusy s = false → s.layout ≠ .editing → Answers k.command s e .sequence [] s) ∧
      (tablesBusy s = false → s.layout = .editing → k.stored = none → Answers k.command s e .badField [] s) ∧
      (tablesBusy s = false → s.layout = .editing → ∀ l, k.stored = some l →
        Answers k.command s e .ok (f.take 3) { s with tables := { s.tables with layout := l } }))

/-- Every entry of every table, with each field at every value its range admits, is read from the bytes that carry it as itself, and the entry
stored at an index of a table, or the value stored at a parameter index, is the one read there, every other index keeping its own. What is
read as a zone, detector or exit entry has its fields in their ranges and is written as the bytes it was read from. The parameters are indexed
in the order of Table 1-5. -/
def Obligations.EntriesReadBackAsWritten : Prop :=
  (∀ bs : List Byte,
    (4 ≤ bs.length → ∀ e, parseZoneEntry bs = some e → zoneEntryBytes e = bs.take 4 ∧ 2 ≤ e.denseQuorum ∧ e.denseQuorum ≤ 8) ∧
    (4 ≤ bs.length → ∀ e, parseDetectorEntry bs = some e → detectorEntryBytes e = bs.take 4 ∧ e.address ≤ 250 ∧ e.channel ≤ 3 ∧
      e.zone ≤ 63 ∧ 1 ≤ e.weight ∧ e.weight ≤ 3) ∧
    (6 ≤ bs.length → ∀ e, parseExitEntry bs = some e → exitEntryBytes e = bs.take 6 ∧ e.zone ≤ 63 ∧ e.baseCost ≤ 1000 ∧
      e.catchmentLimit ≤ 255 ∧ 1 ≤ e.toneClass ∧ e.toneClass ≤ 4)) ∧
  (∀ p : Params, (List.range 26).map (paramGet p) =
    [p.panelAddress, p.startMode, p.silenceTime, p.watchDecayTime, p.watchPenalty, p.stalePenalty, p.isolatedPenalty, p.smokePenalty,
     p.routeCeiling, p.holdTime, p.refreshPeriod, p.confirmTime, p.beatPeriod] ++
    [p.chaseStep, p.standbyBrightness, p.roundLimit, p.advertPeriod, p.recheckPeriod, p.restartLimit, p.balanceRounds, p.balanceStep,
     p.noticeSpacing, p.capturePeriod, p.laneLossTime, p.laneRestoreTime, p.creditStallTime]) ∧
  (∀ e : ZoneEntry, 2 ≤ e.denseQuorum → e.denseQuorum ≤ 8 → parseZoneEntry (zoneEntryBytes e) = some e) ∧
  (∀ e : DetectorEntry, e.address ≤ 250 → e.channel ≤ 3 → e.zone ≤ 63 → 1 ≤ e.weight → e.weight ≤ 3 →
    parseDetectorEntry (detectorEntryBytes e) = some e) ∧
  (∀ e : ExitEntry, e.zone ≤ 63 → e.baseCost ≤ 1000 → e.catchmentLimit ≤ 255 → 1 ≤ e.toneClass → e.toneClass ≤ 4 →
    parseExitEntry (exitEntryBytes e) = some e) ∧
  (∀ e : Header, e.placeCount ≤ 256 → e.passageCount ≤ 1024 → e.signCount ≤ 192 → parseHeader (headerBytes e) = some e) ∧
  (∀ e : PlaceEntry, e.zone ≤ 63 →
    ((e.kind = .exit ∧ e.boundary = none ∧ ∃ x, x ≤ 31 ∧ e.exitId = some x) ∨
      (e.kind = .boundary ∧ e.exitId = none ∧ ∃ b, b ≤ 7 ∧ e.boundary = some b) ∨
      ((e.kind = .aisle ∨ e.kind = .junction) ∧ e.exitId = none ∧ e.boundary = none)) →
    parsePlaceEntry (placeEntryBytes e) = some e) ∧
  (∀ e : PassageEntry, e.endA ≤ 255 → e.endB ≤ 255 → e.length ≤ 65535 → (∀ z, e.via = some z → z ≤ 63) →
    parsePassageEntry (passageEntryBytes e) = some e) ∧
  (∀ e : SignEntry, e.address ≤ 255 → e.unit ≤ 3 → e.place ≤ 255 → 1 ≤ e.faces.length → e.faces.length ≤ 4 →
    (∀ w, w ∈ e.faces → w = .crossing ∨ ∃ p, p < 1024 ∧ w = .passage p) → e.homeFace ≤ 255 → e.fallbackFace ≤ 255 →
    parseSignEntry (signEntryBytes e) = some e) ∧
  (∀ e : BoundaryEntry, e.id ≤ 255 → e.place ≤ 255 → e.peer ≤ 255 → e.crossingCost ≤ 65535 →
    parseBoundaryEntry (boundaryEntryBytes e) = some e) ∧
  (StoresEntries ZoneEntry.empty ∧ StoresEntries DetectorEntry.empty ∧ StoresEntries ExitEntry.empty ∧ StoresEntries PlaceEntry.empty ∧
    StoresEntries PassageEntry.empty ∧ StoresEntries SignEntry.empty ∧ StoresEntries BoundaryEntry.empty) ∧
  (∀ (p : Params) (i v : Nat), i < 26 →
    paramGet (paramSet p i v) i = v ∧ ∀ j, j ≠ i → paramGet (paramSet p i v) j = paramGet p j)

/-- STATUS_READ answers page 0, 1 or 2 and BAD_FIELD for any other. ENTRY_READ answers BAD_TABLE, then BAD_INDEX, then EMPTY for sign and
boundary records with no ACTIVE layout and for solutions with none committed, BAD_INDEX for a sign or place beyond those in use, and else the
entry after its table and index. The tables are coded 0 to 8 and 16 to 22, each with its range. Neither changes anything else. The pages and
the runtime records carry their fields byte for byte in the order of Table 8-4 and of their rules; the model's readings of it are the codes of
flags and states (log 13), the widths and gaps of the pages (log 14), times left rounded down (log 18), the tier of an exit (log 20) and
absent optional fields (log 29). -/
def Obligations.ReadsReturnTheTables : Prop :=
  ((List.range 9).map tableOfCode = [some .zone, some .detector, some .exit, some .parameter, some .layoutHeader, some .place,
      some .passage, some .sign, some .boundary] ∧
    (∀ n, 9 ≤ n → n ≤ 15 → tableOfCode n = none) ∧
    [16, 17, 18, 19, 20, 21, 22].map tableOfCode = [some .zoneRuntime, some .detectorRuntime, some .exitRuntime, some .signRuntime,
      some .boundaryRuntime, some .solution, some .solveExit] ∧ (∀ n, 23 ≤ n → tableOfCode n = none)) ∧
  (∀ i : Nat,
    (∀ x, x ∈ [(.zone, 64), (.detector, 256), (.exit, 32), (.parameter, 26), (.layoutHeader, 1), (.place, 256), (.passage, 1024),
        (.sign, 192), (.boundary, 8), (.zoneRuntime, 64), (.detectorRuntime, 256), (.exitRuntime, 32), (.boundaryRuntime, 8),
        (.solveExit, 32)] → (beyondRange x.1 i = true ↔ x.2 ≤ i)) ∧
    beyondRange .signRuntime i = false ∧ beyondRange .solution i = false) ∧
  (∀ (e : ReqEntry) (s : State), Begins .statusRead e s → ∀ p rest, fieldsOf e = p :: rest →
    (p = 0 → Answers .statusRead s e .ok (page0 s) s) ∧ (p = 1 → Answers .statusRead s e .ok (page1 s) s) ∧
    (p = 2 → Answers .statusRead s e .ok (page2 s) s) ∧ (2 < p.toNat → Answers .statusRead s e .badField [] s)) ∧
  (∀ (e : ReqEntry) (s : State), Begins .entryRead e s → ∀ tc hi lo rest, fieldsOf e = tc :: hi :: lo :: rest →
    (tableOfCode tc.toNat = none → Answers .entryRead s e .badTable [] s) ∧
    (∀ t, tableOfCode tc.toNat = some t →
      (beyondRange t (word16 hi lo) = true → Answers .entryRead s e .badIndex [] s) ∧
      (beyondRange t (word16 hi lo) = false →
        (∀ bs, readEntry s t (word16 hi lo) = .ok bs → Answers .entryRead s e .ok (tc :: hi :: lo :: bs) s) ∧
        (∀ st, readEntry s t (word16 hi lo) = .error st → Answers .entryRead s e st [] s)))) ∧
  (∀ (s : State) (i : Nat),
    (s.layout ≠ .active → readEntry s .signRuntime i = .error .empty ∧ readEntry s .boundaryRuntime i = .error .empty) ∧
    (s.layout = .active → s.tables.layout.header.signCount ≤ i → readEntry s .signRuntime i = .error .badIndex) ∧
    (s.layout = .active → i < s.tables.layout.header.signCount → readEntry s .signRuntime i = .ok (signRtBytes s i)) ∧
    (s.solver.committed = none → readEntry s .solution i = .error .empty ∧ readEntry s .solveExit i = .error .empty) ∧
    (∀ c, s.solver.committed = some c →
      (c.records.length ≤ i → readEntry s .solution i = .error .badIndex) ∧
      (∀ r, c.records[i]? = some r → readEntry s .solution i = .ok (solutionBytes r s.solver.generation.toNat))) ∧
    readEntry s .zone i = .ok (zoneEntryBytes (zoneEntry s i)) ∧ readEntry s .detector i = .ok (detectorEntryBytes (detectorEntry s i)) ∧
    readEntry s .exit i = .ok (exitEntryBytes (exitEntry s i)) ∧ readEntry s .zoneRuntime i = .ok (zoneRtBytes s i) ∧
    readEntry s .detectorRuntime i = .ok (detectorRtBytes (detectorRt s i)) ∧
    readEntry s .exitRuntime i = .ok (exitRtBytes (exitRt s i)) ∧
    (∀ c, s.solver.committed = some c → ∀ x, c.exits[i]? = some x → readEntry s .solveExit i = .ok (solveExitBytes x)) ∧
    (s.layout = .active → readEntry s .boundaryRuntime i = .ok (boundaryRtBytes (boundaryRt s i))) ∧
    readEntry s .parameter i = .ok (num2 (paramGet s.tables.params i)) ∧
    readEntry s .layoutHeader i = .ok (headerBytes s.tables.layout.header) ∧
    readEntry s .place i = .ok (placeEntryBytes (placeOf s.tables.layout i)) ∧
    readEntry s .passage i = .ok (passageEntryBytes (passageOf s.tables.layout i)) ∧
    readEntry s .sign i = .ok (signEntryBytes (signOf s.tables.layout i)) ∧
    readEntry s .boundary i = .ok (boundaryEntryBytes (boundaryOf s.tables.layout i))) ∧
  ((flag true = [1] ∧ flag false = [0]) ∧ (∀ n, num2 n = [byte (n / 256), byte n]) ∧
    (∀ n, num4 n = [byte (n / 16777216), byte (n / 65536), byte (n / 256), byte n]) ∧
    timer2 none = [255, 255] ∧ ∀ ms, timer2 (some ms) = num2 (ms / 100)) ∧
  (∀ s : State, page0 s =
    [71, 1, byte s.node.address, byte ((s.node.retired.map (·.address)).getD 0)] ++ num4 s.uptime.toNat ++
    [byte (modeCode s.mode.mode)] ++ flag s.mode.startWait ++ flag s.mode.evacDemand ++ flag s.mode.frozen ++
    [if s.mode.evacLine.accepted = .active then 0 else 1, if s.mode.holdLine.accepted = .active then 0 else 1] ++
    flag s.mode.fireWaiting ++ (if s.mode.fireWaiting = true then flag s.mode.fireEvac ++ flag s.mode.lineCause else [255, 255]) ++
    [byte (layoutCode s.layout)] ++ flag s.validation.failed ++ [byte s.validation.check, byte s.validation.table] ++
    num2 s.validation.index ++ [if s.store.op = .idle then 0 else if s.store.op = .save then 1 else 2] ++ flag s.store.valid ++
    num2 s.store.saveCount.toNat ++ num2 (latchSet s)) ∧
  (∀ s : State, page1 s =
    [byte (phaseCode s.solver.phase)] ++ num2 s.solver.generation.toNat ++ flag s.solver.pending ++ [byte s.solver.restarts] ++
    (match s.solver.committed with
     | none => [0]
     | some c => [1] ++ num2 c.summary.nTarget ++ num2 c.summary.nSafe ++ num2 c.summary.nLeastHarm ++ num2 c.summary.nNone ++
        [byte c.summary.faceGaps, byte c.summary.rounds] ++ num2 c.summary.sweeps ++ [byte c.summary.restarts])) ∧
  (∀ s : State, page2 s =
    [byte (portStateCode s.portA.state), byte (portStateCode s.portB.state), byte (laneStateCode s.portA.lane0.state),
     byte (laneStateCode s.portA.lane1.state), if s.portB.lane0Up then 0 else 1, if s.portB.lane1Up then 0 else 1,
     byte s.portA.outstanding.ded.haz, byte s.portA.outstanding.ded.sign, byte s.portA.outstanding.ded.mgmt,
     byte s.portA.outstanding.ded.ctl, byte s.portA.outstanding.shared, byte s.portA.pool.length,
     byte s.portB.credits.ded.haz, byte s.portB.credits.ded.sign, byte s.portB.credits.ded.mgmt, byte s.portB.credits.ded.ctl,
     byte s.portB.credits.shared, byte (s.portA.pool.filter (fun p => p.waiting)).length, byte s.requests.queue.length] ++
    flag s.cadence.loopOpen ++ [byte s.cadence.missCount] ++ num2 s.cadence.lateBeats ++ num2 s.node.discardedTakes) ∧
  (∀ (s : State) (z : Nat), zoneRtBytes s z =
    flag (zoneRt s z).smoke ++ flag (zoneRt s z).dense ++ flag (zoneRt s z).isolate ++ flag (zoneRt s z).stale ++
    timer2 (zoneRt s z).watch ++ num2 (zoneRt s z).preCount ++ num2 (alarmWeight s z) ++ num2 (faultedCount s z) ++
    num2 (detectorsOf s z).length ++ [byte (zoneStateCode (zoneRt s z).derived)]) ∧
  (∀ r : DetectorRt, detectorRtBytes r =
    [byte (conditionCode r.last)] ++ flag r.heard ++ flag r.silent ++ flag r.fault ++ timer2 r.silence ++ [byte r.ignored]) ∧
  (∀ r : ExitRt, exitRtBytes r = flag r.closed ++ num2 r.bias ++ [byte (usabilityCode r.usability)]) ∧
  (presentationBytes none = [255, 255, 255, 255, 255, 255, 255] ∧
    (∀ p : Presentation, presentationBytes (some p) =
      [byte p.face, byte (signModeCode p.mode), byte p.phase, byte p.brightness, byte p.tone, byte (basisCode p.basis),
       byte (tierCode p.tier)]) ∧
    ∀ (s : State) (i : Nat), signRtBytes s i =
      presentationBytes (signRt s i).desired ++ presentationBytes (signRt s i).commanded ++
      (match (signRt s i).confirmed with
       | none => [255, 255]
       | some c => [c.1, c.2]) ++
      [byte (signStateCode (signRt s i).state)] ++ timer2 (signRt s i).hold ++ flag (signRt s i).held ++
      flag (signRt s i).confirm.isSome ++ [byte (signRt s i).noReply, byte (signRt s i).mismatch] ++ flag (signRt s i).lampFault ++
      [if i ∈ s.signs.forced then 1 else if i ∈ s.signs.ordinary then 2 else 0]) ∧
  (advertBytes none = [255, 255, 255] ∧ (∀ a : Advert, advertBytes (some a) = num2 a.cost ++ [byte (advertTierCode a.tier)]) ∧
    ∀ r : BoundaryRt, boundaryRtBytes r =
      [byte (boundaryStateCode r.state)] ++ num2 r.heardCost ++ [byte (advertTierCode r.heardTier)] ++ timer2 r.age ++
      advertBytes r.computed ++ advertBytes r.last ++ flag r.due) ∧
  (∀ (r : SolRec) (g : Nat), solutionBytes r g =
    num2 r.cost ++ [byte (tierCode r.tier)] ++
    (match r.next with
     | none => [255, 255]
     | some .crossing => [255, 254]
     | some (.passage p) => num2 p) ++
    (match r.target with
     | none => [255, 255]
     | some (.exit e) => [byte e, 0]
     | some (.boundary b) => [byte b, 1]) ++ num2 g) ∧
  (∀ x : SolveExit, solveExitBytes x = num2 x.catchment ++ num2 x.bias ++ [if x.tier = 1 then 0 else if x.tier = 2 then 1 else 2]) ∧
  (([Mode.quiet, .standby, .alert, .evac, .maint].map modeCode = [0, 1, 2, 3, 4] ∧
      [Layout.none, .editing, .validating, .reloading, .active].map layoutCode = [0, 1, 2, 3, 4] ∧
      [Phase.idle, .take, .safeSweep, .harmSweep, .balance, .select, .commit].map phaseCode = [0, 1, 2, 3, 4, 5, 6] ∧
      [PortState.training, .upDual, .upSingle, .down].map portStateCode = [0, 1, 2, 3] ∧
      [LaneState.down, .restoring, .up].map laneStateCode = [0, 1, 2]) ∧
    ([ZoneState.dense, .smoke, .isolated, .stale, .watch, .clear].map zoneStateCode = [0, 1, 2, 3, 4, 5] ∧
      [Condition.normal, .preAlarm, .alarm, .fault].map conditionCode = [0, 1, 2, 3] ∧
      [Usability.safeUse, .harmUse, .noUse].map usabilityCode = [0, 1, 2]) ∧
    ([SignMode.dark, .steady, .flash, .chase].map signModeCode = [0, 1, 2, 3] ∧
      [Basis.dark, .home, .route, .gap, .fallback].map basisCode = [0, 1, 2, 3, 4] ∧
      [Tier.target, .safe, .leastHarm, .none].map tierCode = [0, 1, 2, 3] ∧
      [SignState.unknown, .awaiting, .confirmed, .faulted].map signStateCode = [0, 1, 2, 3] ∧
      [BoundaryState.unheard, .live, .expired].map boundaryStateCode = [0, 1, 2] ∧
      [AdvertTier.safe, .leastHarm].map advertTierCode = [0, 1]))

/-- LAYOUT_OPEN is refused while tables are busy, when open already and outside MAINT; accepted, the layout is EDITING, any solve is abandoned
(counted as SOLVE_ABORT) and the committed solution withdrawn, the generation kept, the selections absent and the update queue and due set
empty. LAYOUT_CLOSE and LAYOUT_DISCARD are accepted from EDITING alone and record their requester; the first begins validation, the second a
reload of the layout. -/
def Obligations.LayoutIsOpenedClosedAndDiscarded : Prop :=
  (∀ (e : ReqEntry) (s : State), s.canonical = true → Begins .layoutOpen e s →
    (tablesBusy s = true → Answers .layoutOpen s e .busy [] s) ∧
    (tablesBusy s = false → s.layout = .editing → Answers .layoutOpen s e .sequence [] s) ∧
    (tablesBusy s = false → s.layout ≠ .editing → s.mode.mode ≠ .maint → Answers .layoutOpen s e .wrongMode [] s) ∧
    (tablesBusy s = false → s.layout ≠ .editing → s.mode.mode = .maint →
      ∃ u, Answers .layoutOpen s e .ok [] u ∧ u.layout = .editing ∧ u.solver.phase = .idle ∧ u.solver.committed = none ∧
        u.solver.snapshot = none ∧ u.solver.pending = false ∧ u.solver.recheck = none ∧
        u.solver.generation = s.solver.generation ∧
        u.counters = (if s.solver.phase = .idle then s.counters else (count .solveAbort none s).counters) ∧
        u.signs.selections = none ∧ u.signs.forced = [] ∧ u.signs.ordinary = [] ∧
        (∀ i, i < 192 → signRt u i = { signRt s i with hold := none, confirm := none }) ∧ u.boundaries.period = none ∧
        (∀ b, b < 8 → boundaryRt u b = { boundaryRt s b with due := false, computed := none, age := none }) ∧
        KeepsAllBut [.layout, .solver, .signs, .boundaries, .counters, .notices] s u)) ∧
  (∀ (e : ReqEntry) (s : State) (c : Instr) (row : ReqRow),
    ((c = .layoutClose ∧ row = .layoutClose) ∨ (c = .layoutDiscard ∧ row = .layoutDiscard)) → Begins row e s →
    (tablesBusy s = true → Answers c s e .busy [] s) ∧
    (tablesBusy s = false → s.layout ≠ .editing → Answers c s e .sequence [] s) ∧
    (tablesBusy s = false → s.layout = .editing →
      Answers c s e .accepted [] { s with
        layout := if c = .layoutClose then .validating else .reloading
        store := if c = .layoutClose then s.store else { s.store with op := .layoutReload }
        requests := { s.requests with operation := some ⟨e.payload.headD 0, e.requester⟩ } }))

/-- Validation takes the checks of Table 1-7 in their order, the entries of each in ascending index, and the first that fails is the finding:
its check, the table of the check and the index. It ends with the layout ACTIVE and a solve begun where every check passes, or EDITING with
the first failure recorded; a reload ends with the image's layout ACTIVE, or with no layout and the valid flag cleared. Each makes the
recorded operation's completion response due. A fire path that waited on the operation, a store load among them, then acts by the layout
reached: ACTIVE sets the mode, NONE places a SHOW_DEFAULT and latches ROUTE_LOST. A validation that passes answers check code, table and index
0, the model's choice (log 41). That the command says whether the image is read back as it was written is another (log 8), and the check is a
free value of the model (log 35). -/
def Obligations.ValidationAndReloadEnd : Prop :=
  (∀ (t : Tables) (n : Nat), n = t.layout.header.placeCount →
    ((n = 0 ∨ 256 < n) → validate t = some ⟨1, 4, 0⟩) ∧
    (1 ≤ n → n ≤ 256 →
      ((∀ i, i < n → (placeOf t.layout i).kind ≠ .exit) → validate t = some ⟨1, 5, n⟩) ∧
      ((∃ i, i < n ∧ (placeOf t.layout i).kind = .exit) →
        (∀ k, k ∈ entryChecks t.layout.header → ∀ i, validate t = some ⟨k.check, k.table, i⟩ ↔
          (i < k.entries ∧ ¬entryPasses t k.check i ∧ (∀ j, j < i → entryPasses t k.check j) ∧
            ∀ h, h ∈ entryChecks t.layout.header → h.check < k.check → ∀ j, j < h.entries → entryPasses t h.check j)) ∧
        (validate t = none ↔ ∀ h, h ∈ entryChecks t.layout.header → ∀ j, j < h.entries → entryPasses t h.check j)))) ∧
  (∀ s : State, s.inReset = false → s.layout = .validating → s.mode.fireWaiting = false →
    (validate s.tables = none →
      ∃ t, exec .validationEnd s = .next t ∧ t.layout = .active ∧ t.validation = ⟨false, 0, 0, 0⟩ ∧ t.solver.phase = .take ∧
        t.tables = s.tables ∧ t.signs.records = [] ∧ t.signs.selections = none ∧ t.boundaries.records = [] ∧
        (∀ o, s.requests.operation = some o →
          t.requests = { s.requests with operation := none, completionDue := some ⟨o.requester, [o.kind, 0, 0, 0, 0, 0], true⟩ }) ∧
        KeepsAllBut [.layout, .validation, .solver, .signs, .boundaries, .requests] s t) ∧
    (∀ f, validate s.tables = some f →
      ∃ t, exec .validationEnd s = .next t ∧ t.layout = .editing ∧ t.validation = ⟨true, f.check, f.table, f.index⟩ ∧
        (∀ o, s.requests.operation = some o →
          t.requests = { s.requests with operation := none, completionDue := some ⟨o.requester,
            o.kind :: 10 :: byte f.check :: byte f.table :: num2 f.index, true⟩ }) ∧
        KeepsAllBut [.layout, .validation, .requests] s t)) ∧
  (∀ (s : State) (ok : Bool), s.inReset = false → s.store.op = .layoutReload → s.mode.fireWaiting = false →
    ∃ t, exec (.layoutReloadEnd ok) s = .next t ∧
      t.store = { s.store with op := .idle, valid := s.store.valid && imageValid s.store ok } ∧
      ((s.store.valid && imageValid s.store ok) = true →
        t.tables = { s.tables with layout := s.store.image.layout } ∧ t.layout = .active ∧ t.solver.phase = .take ∧
        ∀ o, s.requests.operation = some o →
          t.requests = { s.requests with operation := none, completionDue := some ⟨o.requester, [o.kind, 0], true⟩ }) ∧
      ((s.store.valid && imageValid s.store ok) = false →
        t.tables = { s.tables with layout := LayoutTables.empty } ∧ t.layout = .none ∧ t.solver = s.solver ∧
        ∀ o, s.requests.operation = some o →
          t.requests = { s.requests with operation := none, completionDue := some ⟨o.requester, [o.kind, 6], true⟩ }) ∧
      KeepsAllBut [.store, .tables, .layout, .solver, .signs, .boundaries, .requests] s t) ∧
  (∀ s : State, s.inReset = false → s.layout = .validating → s.mode.fireWaiting = true → s.mode.mode = .maint →
    (validate s.tables = none →
      ∃ t, exec .validationEnd s = .next t ∧ t.layout = .active ∧ t.mode.fireWaiting = false ∧ t.mode.lineCause = false ∧
        t.mode.mode = (if s.mode.fireEvac = true ∨ anyDense s = true then .evac else if hazardPresent s then .alert else .standby)) ∧
    (∀ f, validate s.tables = some f →
      ∃ t, exec .validationEnd s = .next t ∧ t.layout = .reloading ∧ t.store = { s.store with op := .layoutReload } ∧
        t.mode.fireWaiting = true ∧ t.mode.mode = .maint ∧ t.signs.defaultSlot = (addressed s || s.signs.defaultSlot))) ∧
  (∀ (s : State) (ok : Bool) (c : Instr) (valid : Bool), s.canonical = true → s.inReset = false → s.mode.fireWaiting = true →
    s.mode.mode = .maint →
    ((c = .layoutReloadEnd ok ∧ s.store.op = .layoutReload ∧ valid = (s.store.valid && imageValid s.store ok)) ∨
      (c = .storeLoadEnd ok ∧ s.store.op = .load ∧ valid = imageValid s.store ok)) →
    (valid = true →
      ∃ t, exec c s = .next t ∧ t.layout = .active ∧ t.store.op = .idle ∧ t.solver.phase = .take ∧ t.tables.layout = s.store.image.layout ∧
        t.mode.fireWaiting = false ∧ t.mode.lineCause = false ∧
        t.mode.mode = (if s.mode.fireEvac = true ∨ anyDense t = true then .evac else if hazardPresent t then .alert else .standby) ∧
        causeRec t 5 = { causeRec s 5 with latched := true, detail := 4 } ∧ t.signs.defaultSlot = s.signs.defaultSlot) ∧
    (valid = false →
      ∃ t, exec c s = .next t ∧ t.layout = .none ∧ t.store = { s.store with op := .idle, valid := false } ∧
        t.tables = { s.tables with layout := LayoutTables.empty } ∧
        t.mode = { s.mode with fireWaiting := false, lineCause := false } ∧
        causeRec t 2 = { causeRec s 2 with latched := true, detail := 1 } ∧ t.signs.defaultSlot = (addressed s || s.signs.defaultSlot)))

/-- STORE_SAVE is refused while tables are busy and with no ACTIVE layout; accepted, the marker is erased and the image is not valid until the
save ends: OK, it holds the tables with their check and the save count rises by one; FAILED, it is not valid, its marker erased, the earlier
tables and check left as they were (log 45). An image is valid where its marker is present and its check matches its contents. STORE_LOAD is
refused while busy, outside MAINT, with a latched zone and with no valid image; it ends with every table the image's and the layout ACTIVE, or
with no layout. A load keeps the latches of every zone whose loaded dense quorum is at least 1, as every quorum is (2 to 8), and stops the
watch timers, the model's reading (log 19). Each end latches STORE_DONE with its outcome. That the command says how the save or load went is
the model's choice (log 8), and the check is a free value of the model (log 35). -/
def Obligations.StoreSavesAndLoads : Prop :=
  (∀ (e : ReqEntry) (s : State), Begins .storeSave e s →
    (tablesBusy s = true → Answers .storeSave s e .busy [] s) ∧
    (tablesBusy s = false → s.layout ≠ .active → Answers .storeSave s e .noLayout [] s) ∧
    (tablesBusy s = false → s.layout = .active →
      Answers .storeSave s e .accepted [] { s with store := { s.store with op := .save, marker := false, valid := false } })) ∧
  (∀ (s : State) (ok : Bool), s.canonical = true → s.inReset = false → s.store.op = .save →
    ∃ t, exec (.storeSaveEnd ok) s = .next t ∧
      t.store = (if ok then ⟨.idle, true, s.store.saveCount + 1, true, Config.imageCheck s.tables, s.tables⟩
                 else { s.store with op := .idle, valid := false, marker := false }) ∧
      causeRec t 11 = { causeRec s 11 with latched := true, detail := if ok then 0 else 1 } ∧ KeepsAllBut [.store, .notices] s t) ∧
  (∀ (e : ReqEntry) (s : State), Begins .storeLoad e s →
    (tablesBusy s = true → Answers .storeLoad s e .busy [] s) ∧
    (tablesBusy s = false → s.mode.mode ≠ .maint → Answers .storeLoad s e .wrongMode [] s) ∧
    (tablesBusy s = false → s.mode.mode = .maint → anyLatched s = true → Answers .storeLoad s e .hazardLatched [] s) ∧
    (tablesBusy s = false → s.mode.mode = .maint → anyLatched s = false → s.store.valid = false →
      Answers .storeLoad s e .noLayout [] s) ∧
    (tablesBusy s = false → s.mode.mode = .maint → anyLatched s = false → s.store.valid = true →
      ∃ u, Answers .storeLoad s e .accepted [] u ∧ u.layout = .reloading ∧ u.store = { s.store with op := .load } ∧
        u.tables = s.tables ∧ u.hazard = s.hazard ∧ u.mode = s.mode ∧ u.requests = s.requests ∧
        u.solver.generation = s.solver.generation ∧
        (s.layout = .active → u.solver.committed = none ∧ u.solver.phase = .idle ∧ u.signs.selections = none) ∧
        (s.layout ≠ .active → KeepsAllBut [.layout, .store] s u))) ∧
  (∀ (s : State) (ok : Bool), s.canonical = true → s.inReset = false → s.store.op = .load → s.mode.fireWaiting = false →
    ∃ t, exec (.storeLoadEnd ok) s = .next t ∧
      (imageValid s.store ok = true →
        t.tables = s.store.image ∧ t.layout = .active ∧ t.store = { s.store with op := .idle } ∧ t.solver.phase = .take ∧
        causeRec t 11 = { causeRec s 11 with latched := true, detail := 2 } ∧
        (∀ i, i < 256 → detectorRt t i = { DetectorRt.reset with
          silence := if (detectorEntry t i).inUse = true ∧ s.portA.state.isUp = true
                     then some (t.tables.params.silenceTime * 1000) else none }) ∧
        (∀ z, z < 64 → (zoneRt t z).stale = true ∧
          (1 ≤ (Tab.read ZoneEntry.empty s.store.image.zones z).denseQuorum →
            (zoneRt t z).smoke = (zoneRt s z).smoke ∧ (zoneRt t z).dense = (zoneRt s z).dense) ∧
          (zoneRt t z).isolate = (zoneRt s z).isolate ∧ (zoneRt t z).watch = none ∧ (zoneRt t z).preCount = 0 ∧
          zoneState t z = deriveZone (zoneRt t z) (zoneAllOut t z))) ∧
      (imageValid s.store ok = false →
        t.tables = { s.tables with layout := LayoutTables.empty } ∧ t.layout = .none ∧
        t.store = { s.store with op := .idle, valid := false } ∧ t.hazard = s.hazard ∧
        causeRec t 11 = { causeRec s 11 with latched := true, detail := 3 }) ∧
      KeepsAllBut [.tables, .layout, .store, .hazard, .solver, .signs, .boundaries, .notices] s t) ∧
  (∀ (r : Store) (ok : Bool), imageValid r ok = true ↔ (r.marker = true ∧ r.check = Config.imageCheck r.image ∧ ok = true))

/-- RESTART is refused while tables are busy. Accepted, it keeps every zone, detector and exit record, the exit usabilities, every latch,
flag, count and running watch decay timer; the ports are reset and Port A trains afresh; the silence timers stop with Port A's leaving the up
states and restart with its return, which sets no STALE flag. The generation, the mode and the tables are kept, the solution is withdrawn, and
STARTED alone is latched, with detail 2, the enables kept. Its completion answers OK. That it is one step and its completion, that the entry
and the details are kept and that a transmission ends is the model's choice (log 32); that the request's step takes the head of the queue is
log 3, the record of what was sent on the return lane log 23, that no telegram counts as seen on a lane log 9, and that a held grant is
dropped log 48. The forward path, the signs and the solver but for the hazard reference and the generation take their reset values, the stall
episodes and the selections among them, and the refresh and default repeat timers start anew where they run. -/
def Obligations.RestartKeepsTheHazardMap : Prop :=
  (∀ (e : ReqEntry) (s : State), s.canonical = true → Begins .restart e s →
    (tablesBusy s = true → Answers .restart s e .busy [] s) ∧
    (tablesBusy s = false →
      ∃ t, exec .restart s = .next t ∧ t.hazard.zones = s.hazard.zones ∧ t.hazard.exits = s.hazard.exits ∧
        (∀ i, i < 256 → detectorRt t i = { detectorRt s i with silence := none }) ∧
        t.portA = PortA.reset s.portA.returns ∧ t.portB = PortB.reset ∧ t.forward = Forward.reset ∧ t.cadence = Cadence.reset ∧
        t.node = { s.node with retired := none, discardedTakes := 0 } ∧
        t.solver.generation = s.solver.generation ∧ t.solver.committed = none ∧ t.solver.pending = false ∧
        t.solver.phase = (if s.layout = .active then .take else .idle) ∧ t.signs.hazardRef = s.signs.hazardRef ∧
        t.signs = { Signs.reset with
          hazardRef := s.signs.hazardRef
          refreshTimer := if refreshRuns s = true then some (s.tables.params.refreshPeriod * 1000 / s.tables.layout.header.signCount)
                          else none
          defaultTimer := if defaultRuns s = true then some (s.tables.params.refreshPeriod * 1000) else none } ∧
        t.solver = { Solver.reset with generation := s.solver.generation, phase := if s.layout = .active then .take else .idle } ∧
        t.boundaries = ⟨[], if s.layout = .active then some (s.tables.params.advertPeriod * 1000) else none⟩ ∧
        t.requests = ⟨[e], none, none, none, true⟩ ∧ t.counters = ⟨[], false⟩ ∧ t.notices.spacing = none ∧
        causeRec t 13 = { causeRec s 13 with latched := true, detail := 2 } ∧
        (∀ n, 1 ≤ n → n ≤ 12 → (causeRec t n).latched = false ∧ (causeRec t n).enabled = (causeRec s n).enabled) ∧
        t.notices.master = s.notices.master ∧
        KeepsAllBut [.hazard, .portA, .portB, .forward, .cadence, .node, .solver, .signs, .boundaries, .requests, .counters,
          .notices] s t)) ∧
  (∀ (s : State) (l : Lane), s.canonical = true → s.inReset = false → s.portA.state = .training →
    (s.portA.lane l).state = .restoring → (s.portA.lane l).restore = some 0 →
    ∃ t, exec (.laneRestoreExpiry l) s = .next t ∧ t.portA.state.isUp = true ∧ t.hazard.zones = s.hazard.zones ∧
      t.hazard.exits = s.hazard.exits ∧
      (∀ i, i < 256 → detectorRt t i = (if (detectorEntry s i).inUse then
        { detectorRt s i with silence := some (s.tables.params.silenceTime * 1000) } else detectorRt s i))) ∧
  (∀ s : State, s.inReset = false → s.requests.restarting = true → ∀ e rest, s.requests.queue = e :: rest →
    ∃ t, exec .restartComplete s = .next t ∧
      t.requests = (if e.broadcast = true ∨ addressed s = false then { s.requests with restarting := false, queue := rest }
                    else { s.requests with restarting := false, slot := some ⟨e.requester, [e.payload.headD 0, 0], false⟩ }) ∧
      KeepsAllBut [.requests] s t)

/-! ### Notices, captures and counters -/

/-- NOTICE_SET replaces the master enable and every enable flag, and NOTICE_CLEAR clears the named latches; a set with a bit above 12, or a
master enable above 1, is answered BAD_FIELD. The spacing timer, run out, stops at its expiry and lets the unit offer again. While the router
is addressed, the spacing timer stopped and the panel address 1 to 250 it offers the lowest numbered eligible cause, and otherwise nothing; an
eligible cause is latched and, where it is maskable, enabled with the master enable. -/
def Obligations.NoticesAreEnabledClearedAndOffered : Prop :=
  (∀ (e : ReqEntry) (s : State), s.canonical = true → Begins .noticeSet e s → ∀ m hi lo rest, fieldsOf e = m :: hi :: lo :: rest →
    ((1 < m.toNat ∨ 8192 ≤ word16 hi lo) → Answers .noticeSet s e .badField [] s) ∧
    (m.toNat ≤ 1 → word16 hi lo < 8192 →
      ∃ u, Answers .noticeSet s e .ok [] u ∧ u.notices.master = decide (m.toNat = 1) ∧ u.notices.spacing = s.notices.spacing ∧
        (∀ n, 1 ≤ n → n ≤ 13 → causeRec u n = { causeRec s n with enabled := (word16 hi lo).testBit (n - 1) }) ∧
        KeepsAllBut [.notices] s u)) ∧
  (∀ (e : ReqEntry) (s : State), s.canonical = true → Begins .noticeClear e s → ∀ hi lo rest, fieldsOf e = hi :: lo :: rest →
    (8192 ≤ word16 hi lo → Answers .noticeClear s e .badField [] s) ∧
    (word16 hi lo < 8192 →
      ∃ u, Answers .noticeClear s e .ok [] u ∧ u.notices.master = s.notices.master ∧ u.notices.spacing = s.notices.spacing ∧
        (∀ n, 1 ≤ n → n ≤ 13 →
          causeRec u n = { causeRec s n with latched := (causeRec s n).latched && !(word16 hi lo).testBit (n - 1) }) ∧
        KeepsAllBut [.notices] s u)) ∧
  (∀ s : State, s.inReset = false → s.notices.spacing = some 0 →
    ∃ t, exec .noticeSpacingExpiry s = .next t ∧ t.notices = { s.notices with spacing := none } ∧ KeepsAllBut [.notices] s t) ∧
  (∀ (s : State) (n : Nat), noticeOffer s = some n ↔
    (addressed s = true ∧ s.notices.spacing = none ∧ 1 ≤ s.tables.params.panelAddress ∧ s.tables.params.panelAddress ≤ 250 ∧
      1 ≤ n ∧ n ≤ 13 ∧ (causeRec s n).latched = true ∧
      (n ∈ [1, 2, 3, 13] ∨ ((causeRec s n).enabled = true ∧ s.notices.master = true)) ∧
      (∀ k, 1 ≤ k → k < n → ¬((causeRec s k).latched = true ∧
        (k ∈ [1, 2, 3, 13] ∨ ((causeRec s k).enabled = true ∧ s.notices.master = true))))))

/-- A capture takes the state as it stands into the empty slot, slot 0 before slot 1, and latches CAPTURE_READY; with both filled it is lost,
setting the overflow latch and latching CAPTURE_LOST. CAPTURE_TAKE answers the slot filled, or 255. The period timer restarts at its expiry.
CAPTURE_READ reads the older filled slot in three parts taken in order, the last of which empties it; INCIDENT_RELEASE opens the lock. A
record holds the trigger, the uptime, the mode, the generation, the zone states, the exit usabilities, the counts of the committed solution, 0
where there is none, and the counts of signs HELD and FAULTED. The parts carry it byte for byte as Tables 9-2 to 9-4 say, packed codes most
significant bit first from the lowest index. -/
def Obligations.CapturesAreTakenAndRead : Prop :=
  (∀ (g : Trigger) (s : State), ∀ x, x = captureOf g s →
    x.trigger = g ∧ x.uptime = s.uptime ∧ x.mode = s.mode.mode ∧ x.generation = s.solver.generation ∧
    x.present = s.solver.committed.isSome ∧ x.zones = (List.range 64).map (zoneState s) ∧
    x.exits = (List.range 32).map (fun e => (exitRt s e).usability) ∧
    (s.solver.committed = none → x.nTarget = 0 ∧ x.nSafe = 0 ∧ x.nLeastHarm = 0 ∧ x.nNone = 0) ∧
    (∀ c, s.solver.committed = some c → x.nTarget = c.summary.nTarget ∧ x.nSafe = c.summary.nSafe ∧
      x.nLeastHarm = c.summary.nLeastHarm ∧ x.nNone = c.summary.nNone) ∧
    x.nHeld = ((List.range (signsInUse s)).filter (fun i => (signRt s i).held)).length ∧
    x.nFaulted = ((List.range (signsInUse s)).filter (fun i => decide ((signRt s i).state = .faulted))).length) ∧
  ([Trigger.request, .incident, .evacLine, .periodic].map triggerCode = [0, 1, 2, 3] ∧
    ∀ (x : FilledSlot) (s : State), part0Fields x s =
      [0, byte x.slot, byte (triggerCode x.capture.trigger)] ++ num4 x.capture.uptime.toNat ++ [byte (modeCode x.capture.mode)] ++
      num2 x.capture.generation.toNat ++ flag x.capture.present ++ flag s.captures.overflow ++ [byte s.captures.filled.length] ++
      flag s.captures.lockClosed) ∧
  (∀ x : Capture, x.zones.length = 64 →
    (part1Fields x).length = 25 ∧ (part1Fields x).head? = some 1 ∧
    (part1Fields x).tail.foldl (fun n b => n * 256 + b.toNat) 0 = x.zones.foldl (fun n z => n * 8 + zoneStateCode z) 0) ∧
  (∀ x : Capture, x.exits.length = 32 →
    (part2Fields x).length = 19 ∧ (part2Fields x).head? = some 2 ∧
    ((part2Fields x).tail.take 8).foldl (fun n b => n * 256 + b.toNat) 0 = x.exits.foldl (fun n u => n * 4 + usabilityCode u) 0 ∧
    (part2Fields x).drop 9 =
      num2 x.nTarget ++ num2 x.nSafe ++ num2 x.nLeastHarm ++ num2 x.nNone ++ [byte x.nHeld, byte x.nFaulted]) ∧
  (∀ (s : State) (g : Trigger), s.canonical = true →
    (∀ n, emptySlot s.captures.filled = some n →
      (capture g s).captures = { s.captures with filled := s.captures.filled ++ [⟨n, captureOf g s⟩] } ∧
      causeRec (capture g s) 9 = { causeRec s 9 with latched := true, detail := n }) ∧
    (emptySlot s.captures.filled = none →
      (capture g s).captures = { s.captures with overflow := true } ∧
      causeRec (capture g s) 10 = { causeRec s 10 with latched := true, detail := triggerCode g }) ∧
    KeepsAllBut [.captures, .notices] s (capture g s)) ∧
  (emptySlot [] = some 0 ∧ ∀ x y : Capture, emptySlot [⟨0, x⟩] = some 1 ∧ emptySlot [⟨1, x⟩] = some 0 ∧
    emptySlot [⟨0, x⟩, ⟨1, y⟩] = none ∧ emptySlot [⟨1, x⟩, ⟨0, y⟩] = none) ∧
  (∀ (e : ReqEntry) (s : State), Begins .captureTake e s →
    Answers .captureTake s e .ok [byte ((emptySlot s.captures.filled).getD 255)] (capture .request s)) ∧
  (∀ s : State, s.inReset = false → s.captures.timer = some 0 →
    ∃ t u, exec .capturePeriodExpiry s = .next t ∧
      u = { s with captures := { s.captures with timer :=
        if 10 ≤ s.tables.params.capturePeriod then some (s.tables.params.capturePeriod * 1000) else none } } ∧
      t.captures = (capture .periodic u).captures ∧ t.notices = (capture .periodic u).notices ∧
      KeepsAllBut [.captures, .notices] s t) ∧
  (∀ (e : ReqEntry) (s : State), Begins .incidentRelease e s →
    Answers .incidentRelease s e .ok [] { s with captures := { s.captures with lockClosed := false } }) ∧
  (∀ (e : ReqEntry) (s : State) (c : Instr) (row : ReqRow),
    ((c = .captureReadPart0 ∧ row = .captureReadPart0) ∨ (c = .captureReadPart1 ∧ row = .captureReadPart1) ∨
      (c = .captureReadPart2 ∧ row = .captureReadPart2)) → Begins row e s →
    (s.captures.filled = [] → Answers c s e .empty [] s) ∧
    (∀ x more, s.captures.filled = x :: more → c = .captureReadPart0 →
      Answers c s e .ok (part0Fields x s)
        { s with captures := { s.captures with progress := .part0, reading := x.slot, overflow := false } }) ∧
    (s.captures.filled ≠ [] →
      (c = .captureReadPart1 → s.captures.progress ≠ .part0 → Answers c s e .sequence [] s) ∧
      (c = .captureReadPart2 → s.captures.progress ≠ .part1 → Answers c s e .sequence [] s) ∧
      (∀ k, readingCapture s = some k →
        (c = .captureReadPart1 → s.captures.progress = .part0 →
          Answers c s e .ok (part1Fields k) { s with captures := { s.captures with progress := .part1 } }) ∧
        (c = .captureReadPart2 → s.captures.progress = .part1 →
          Answers c s e .ok (part2Fields k) { s with captures := { s.captures with
            progress := .none, filled := s.captures.filled.filter (fun x => decide (x.slot ≠ s.captures.reading)) } })))) ∧
  (∀ (e : ReqEntry) (s : State), Begins .captureReadBadPart e s → Answers .captureReadBadPart s e .badField [] s)

/-- COUNTER_SET gives a counter its selection and zeroes it, flag and all; COUNTER_READ answers the four values, their events, the overflow
flags and the frozen flag; FREEZE, UNFREEZE, ZERO_ALL and CLEAR_OVERFLOW do what they name to all four; another action is BAD_FIELD. -/
def Obligations.CountersAreSetReadAndControlled : Prop :=
  (∀ (e : ReqEntry) (s : State), s.canonical = true → Begins .counterSet e s →
    ∀ n ev mask thr fz rest, fieldsOf e = n :: ev :: mask :: thr :: fz :: rest →
    (3 < n.toNat → Answers .counterSet s e .badIndex [] s) ∧
    (n.toNat ≤ 3 → (17 < ev.toNat ∨ 15 < mask.toNat ∨ 16 < thr.toNat ∨ 1 < fz.toNat) → Answers .counterSet s e .badField [] s) ∧
    (n.toNat ≤ 3 → ev.toNat ≤ 17 → mask.toNat ≤ 15 → thr.toNat ≤ 16 → fz.toNat ≤ 1 →
      ∃ u, Answers .counterSet s e .ok [] u ∧
        counterAt u n.toNat = ⟨0, false, ev.toNat, BitVec.ofNat 4 mask.toNat, thr.toNat, decide (fz.toNat = 1)⟩ ∧
        (∀ j, j ≠ n.toNat → counterAt u j = counterAt s j) ∧ u.counters.frozen = s.counters.frozen ∧
        KeepsAllBut [.counters] s u)) ∧
  (∀ (e : ReqEntry) (s : State), Begins .counterRead e s →
    Answers .counterRead s e .ok
      (num4 (counterAt s 0).value.toNat ++ num4 (counterAt s 1).value.toNat ++ num4 (counterAt s 2).value.toNat ++
        num4 (counterAt s 3).value.toNat ++ [byte (counterAt s 0).event, byte (counterAt s 1).event, byte (counterAt s 2).event,
        byte (counterAt s 3).event, byte ((if (counterAt s 0).overflow then 1 else 0) + (if (counterAt s 1).overflow then 2 else 0) +
          (if (counterAt s 2).overflow then 4 else 0) + (if (counterAt s 3).overflow then 8 else 0)),
        byte (if s.counters.frozen then 1 else 0)]) s) ∧
  (∀ (e : ReqEntry) (s : State), s.canonical = true →
    (Begins .freeze e s → Answers .freeze s e .ok [] { s with counters := { s.counters with frozen := true } }) ∧
    (Begins .unfreeze e s → Answers .unfreeze s e .ok [] { s with counters := { s.counters with frozen := false } }) ∧
    (Begins .zeroAll e s → ∃ u, Answers .zeroAll s e .ok [] u ∧ (∀ i, i < 4 → counterAt u i = { counterAt s i with value := 0 }) ∧
      u.counters.frozen = s.counters.frozen ∧ KeepsAllBut [.counters] s u) ∧
    (Begins .clearOverflow e s → ∃ u, Answers .clearOverflow s e .ok [] u ∧
      (∀ i, i < 4 → counterAt u i = { counterAt s i with overflow := false }) ∧ u.counters.frozen = s.counters.frozen ∧
      KeepsAllBut [.counters] s u) ∧
    (Begins .counterControlBadAction e s → Answers .counterControlBadAction s e .badField [] s))

/-! ### Invariants of every step -/

/-- Every step keeps every table in canonical form: indices rising, no entry equal to what an unlisted index reads as. -/
def Obligations.CanonicalFormIsKept : Prop := ∀ s : State, s.canonical = true → ∃ t, step s = .next t ∧ t.canonical = true

/-- Every step keeps the buffers within their bounds: for each kind of credit, the occupied pool slots and the credits outstanding number at
most the slots of that kind; the request queue holds at most four entries, the round check list at most ten, each capture slot one. Every step
keeps the fields of the tables, of the parameter set and of the stored image in the ranges the spec gives them, and the address 0 to 250. -/
def Obligations.BuffersStayBounded : Prop :=
  ∀ s : State, ∃ t, step s = .next t ∧
    (s.portA.bounded = true → t.portA.bounded = true) ∧ (s.queuesBounded = true → t.queuesBounded = true) ∧
    (s.addressInRange = true → t.addressInRange = true) ∧ (s.fieldsInRange = true → t.fieldsInRange = true)

/-- Every step keeps layout, store, mode, fire path and solver together: outside MAINT the layout is ACTIVE, a reload or a load runs only in
RELOADING, a fire path waits only for a validation or a reload, a solve and a committed solution stand only with an ACTIVE layout. Every step
keeps the beat timer and slot, the refresh timer, the default repeat timer and the stall timers stopped where their conditions fail. Whatever
the command, but for POWER and PIN: where the condition of the beat timer begins to hold, a BEAT is placed and the timer starts, and where
that of the refresh or of the default repeat timer does, that timer starts. -/
def Obligations.LifecycleAndTimersAreKept : Prop :=
  (∀ s : State, ∃ t, step s = .next t ∧ (s.lifecycle = true → t.lifecycle = true) ∧ (s.timersFollow → t.timersFollow)) ∧
  (∀ (c : Instr) (s : State), s.inReset = false → c ≠ .powerReset → c ≠ .pinReset →
    ∃ t, exec c s = .next t ∧
      (beatRuns s = false → beatRuns t = true → ∃ k, t.cadence.slot = some k ∧ t.cadence.nextBeat = k + 1 ∧
        t.cadence.timer = some t.tables.params.beatPeriod) ∧
      (refreshRuns s = false → refreshRuns t = true →
        t.signs.refreshTimer = some (t.tables.params.refreshPeriod * 1000 / t.tables.layout.header.signCount)) ∧
      (defaultRuns s = false → defaultRuns t = true → t.signs.defaultTimer = some (t.tables.params.refreshPeriod * 1000)))

/-- The router right after reset meets every invariant stated of a step: canonical form, bounds, lifecycle, update queue, soundness of the
working solution, the timers, and the ranges. -/
def Obligations.InvariantsHoldAtReset : Prop :=
  State.reset.canonical = true ∧ State.reset.portA.bounded = true ∧ State.reset.queuesBounded = true ∧
  State.reset.lifecycle = true ∧ State.reset.signs.queueOnce ∧ State.reset.queuePresent ∧ State.reset.workSound = true ∧
  State.reset.timersFollow ∧ State.reset.addressInRange = true ∧ State.reset.fieldsInRange = true

end Statements
end

