-- ==== Sys2Proof/Laws/State.lean ====
section
/-! SUPPORT. The updates of the state in `Machine/Ops.lean`: what each leaves as it was. Every statement is an equation of one field, so that `simp` reads a field through an update without unfolding it. -/

namespace Sys2Proof.Machine

/-- A field that no step of a fold changes is not changed by the fold. -/
theorem foldl_field {σ α β : Type} (p : σ → β) (f : σ → α → σ) (h : ∀ s a, p (f s a) = p s) (l : List α) (s : σ) :
    p (l.foldl f s) = p s := by
  induction l generalizing s with
  | nil => rfl
  | cons a l ih => rw [List.foldl_cons, ih, h]

/-- `setZoneRt` leaves everything but hazard as it was. -/
@[simp] theorem setZoneRt_frame (s : State) (z : Nat) (r : ZoneRt) :
    (setZoneRt s z r).pending = s.pending ∧ (setZoneRt s z r).inReset = s.inReset ∧ (setZoneRt s z r).tables = s.tables ∧
    (setZoneRt s z r).layout = s.layout ∧ (setZoneRt s z r).validation = s.validation ∧ (setZoneRt s z r).store = s.store ∧
    (setZoneRt s z r).solver = s.solver ∧ (setZoneRt s z r).signs = s.signs ∧ (setZoneRt s z r).boundaries = s.boundaries ∧
    (setZoneRt s z r).mode = s.mode ∧ (setZoneRt s z r).portA = s.portA ∧ (setZoneRt s z r).portB = s.portB ∧
    (setZoneRt s z r).forward = s.forward ∧ (setZoneRt s z r).cadence = s.cadence ∧ (setZoneRt s z r).node = s.node ∧
    (setZoneRt s z r).requests = s.requests ∧ (setZoneRt s z r).notices = s.notices ∧ (setZoneRt s z r).captures = s.captures ∧
    (setZoneRt s z r).counters = s.counters ∧ (setZoneRt s z r).uptime = s.uptime ∧ (setZoneRt s z r).draws = s.draws := by
  exact ⟨rfl, rfl, rfl, rfl, rfl, rfl, rfl, rfl, rfl, rfl, rfl, rfl, rfl, rfl, rfl, rfl, rfl, rfl, rfl, rfl, rfl⟩

/-- `setDetectorRt` leaves everything but hazard as it was. -/
@[simp] theorem setDetectorRt_frame (s : State) (i : Nat) (r : DetectorRt) :
    (setDetectorRt s i r).pending = s.pending ∧ (setDetectorRt s i r).inReset = s.inReset ∧
    (setDetectorRt s i r).tables = s.tables ∧ (setDetectorRt s i r).layout = s.layout ∧
    (setDetectorRt s i r).validation = s.validation ∧ (setDetectorRt s i r).store = s.store ∧
    (setDetectorRt s i r).solver = s.solver ∧ (setDetectorRt s i r).signs = s.signs ∧
    (setDetectorRt s i r).boundaries = s.boundaries ∧ (setDetectorRt s i r).mode = s.mode ∧
    (setDetectorRt s i r).portA = s.portA ∧ (setDetectorRt s i r).portB = s.portB ∧ (setDetectorRt s i r).forward = s.forward ∧
    (setDetectorRt s i r).cadence = s.cadence ∧ (setDetectorRt s i r).node = s.node ∧
    (setDetectorRt s i r).requests = s.requests ∧ (setDetectorRt s i r).notices = s.notices ∧
    (setDetectorRt s i r).captures = s.captures ∧ (setDetectorRt s i r).counters = s.counters ∧
    (setDetectorRt s i r).uptime = s.uptime ∧ (setDetectorRt s i r).draws = s.draws := by
  exact ⟨rfl, rfl, rfl, rfl, rfl, rfl, rfl, rfl, rfl, rfl, rfl, rfl, rfl, rfl, rfl, rfl, rfl, rfl, rfl, rfl, rfl⟩

/-- `setExitRt` leaves everything but hazard as it was. -/
@[simp] theorem setExitRt_frame (s : State) (i : Nat) (r : ExitRt) :
    (setExitRt s i r).pending = s.pending ∧ (setExitRt s i r).inReset = s.inReset ∧ (setExitRt s i r).tables = s.tables ∧
    (setExitRt s i r).layout = s.layout ∧ (setExitRt s i r).validation = s.validation ∧ (setExitRt s i r).store = s.store ∧
    (setExitRt s i r).solver = s.solver ∧ (setExitRt s i r).signs = s.signs ∧ (setExitRt s i r).boundaries = s.boundaries ∧
    (setExitRt s i r).mode = s.mode ∧ (setExitRt s i r).portA = s.portA ∧ (setExitRt s i r).portB = s.portB ∧
    (setExitRt s i r).forward = s.forward ∧ (setExitRt s i r).cadence = s.cadence ∧ (setExitRt s i r).node = s.node ∧
    (setExitRt s i r).requests = s.requests ∧ (setExitRt s i r).notices = s.notices ∧ (setExitRt s i r).captures = s.captures ∧
    (setExitRt s i r).counters = s.counters ∧ (setExitRt s i r).uptime = s.uptime ∧ (setExitRt s i r).draws = s.draws := by
  exact ⟨rfl, rfl, rfl, rfl, rfl, rfl, rfl, rfl, rfl, rfl, rfl, rfl, rfl, rfl, rfl, rfl, rfl, rfl, rfl, rfl, rfl⟩

/-- `setSignRt` leaves everything but signs as it was. -/
@[simp] theorem setSignRt_frame (s : State) (i : Nat) (r : SignRt) :
    (setSignRt s i r).pending = s.pending ∧ (setSignRt s i r).inReset = s.inReset ∧ (setSignRt s i r).tables = s.tables ∧
    (setSignRt s i r).layout = s.layout ∧ (setSignRt s i r).validation = s.validation ∧ (setSignRt s i r).store = s.store ∧
    (setSignRt s i r).hazard = s.hazard ∧ (setSignRt s i r).solver = s.solver ∧ (setSignRt s i r).boundaries = s.boundaries ∧
    (setSignRt s i r).mode = s.mode ∧ (setSignRt s i r).portA = s.portA ∧ (setSignRt s i r).portB = s.portB ∧
    (setSignRt s i r).forward = s.forward ∧ (setSignRt s i r).cadence = s.cadence ∧ (setSignRt s i r).node = s.node ∧
    (setSignRt s i r).requests = s.requests ∧ (setSignRt s i r).notices = s.notices ∧ (setSignRt s i r).captures = s.captures ∧
    (setSignRt s i r).counters = s.counters ∧ (setSignRt s i r).uptime = s.uptime ∧ (setSignRt s i r).draws = s.draws := by
  exact ⟨rfl, rfl, rfl, rfl, rfl, rfl, rfl, rfl, rfl, rfl, rfl, rfl, rfl, rfl, rfl, rfl, rfl, rfl, rfl, rfl, rfl⟩

/-- `setBoundaryRt` leaves everything but boundaries as it was. -/
@[simp] theorem setBoundaryRt_frame (s : State) (i : Nat) (r : BoundaryRt) :
    (setBoundaryRt s i r).pending = s.pending ∧ (setBoundaryRt s i r).inReset = s.inReset ∧
    (setBoundaryRt s i r).tables = s.tables ∧ (setBoundaryRt s i r).layout = s.layout ∧
    (setBoundaryRt s i r).validation = s.validation ∧ (setBoundaryRt s i r).store = s.store ∧
    (setBoundaryRt s i r).hazard = s.hazard ∧ (setBoundaryRt s i r).solver = s.solver ∧ (setBoundaryRt s i r).signs = s.signs ∧
    (setBoundaryRt s i r).mode = s.mode ∧ (setBoundaryRt s i r).portA = s.portA ∧ (setBoundaryRt s i r).portB = s.portB ∧
    (setBoundaryRt s i r).forward = s.forward ∧ (setBoundaryRt s i r).cadence = s.cadence ∧ (setBoundaryRt s i r).node = s.node ∧
    (setBoundaryRt s i r).requests = s.requests ∧ (setBoundaryRt s i r).notices = s.notices ∧
    (setBoundaryRt s i r).captures = s.captures ∧ (setBoundaryRt s i r).counters = s.counters ∧
    (setBoundaryRt s i r).uptime = s.uptime ∧ (setBoundaryRt s i r).draws = s.draws := by
  exact ⟨rfl, rfl, rfl, rfl, rfl, rfl, rfl, rfl, rfl, rfl, rfl, rfl, rfl, rfl, rfl, rfl, rfl, rfl, rfl, rfl, rfl⟩

/-- `setCounter` leaves everything but counters as it was. -/
@[simp] theorem setCounter_frame (s : State) (n : Nat) (k : Counter) :
    (setCounter s n k).pending = s.pending ∧ (setCounter s n k).inReset = s.inReset ∧ (setCounter s n k).tables = s.tables ∧
    (setCounter s n k).layout = s.layout ∧ (setCounter s n k).validation = s.validation ∧ (setCounter s n k).store = s.store ∧
    (setCounter s n k).hazard = s.hazard ∧ (setCounter s n k).solver = s.solver ∧ (setCounter s n k).signs = s.signs ∧
    (setCounter s n k).boundaries = s.boundaries ∧ (setCounter s n k).mode = s.mode ∧ (setCounter s n k).portA = s.portA ∧
    (setCounter s n k).portB = s.portB ∧ (setCounter s n k).forward = s.forward ∧ (setCounter s n k).cadence = s.cadence ∧
    (setCounter s n k).node = s.node ∧ (setCounter s n k).requests = s.requests ∧ (setCounter s n k).notices = s.notices ∧
    (setCounter s n k).captures = s.captures ∧ (setCounter s n k).uptime = s.uptime ∧ (setCounter s n k).draws = s.draws := by
  exact ⟨rfl, rfl, rfl, rfl, rfl, rfl, rfl, rfl, rfl, rfl, rfl, rfl, rfl, rfl, rfl, rfl, rfl, rfl, rfl, rfl, rfl⟩

/-- `latch` leaves everything but notices as it was. -/
@[simp] theorem latch_frame (c : Cause) (d : Nat) (s : State) :
    (latch c d s).pending = s.pending ∧ (latch c d s).inReset = s.inReset ∧ (latch c d s).tables = s.tables ∧
    (latch c d s).layout = s.layout ∧ (latch c d s).validation = s.validation ∧ (latch c d s).store = s.store ∧
    (latch c d s).hazard = s.hazard ∧ (latch c d s).solver = s.solver ∧ (latch c d s).signs = s.signs ∧
    (latch c d s).boundaries = s.boundaries ∧ (latch c d s).mode = s.mode ∧ (latch c d s).portA = s.portA ∧
    (latch c d s).portB = s.portB ∧ (latch c d s).forward = s.forward ∧ (latch c d s).cadence = s.cadence ∧
    (latch c d s).node = s.node ∧ (latch c d s).requests = s.requests ∧ (latch c d s).captures = s.captures ∧
    (latch c d s).counters = s.counters ∧ (latch c d s).uptime = s.uptime ∧ (latch c d s).draws = s.draws := by
  exact ⟨rfl, rfl, rfl, rfl, rfl, rfl, rfl, rfl, rfl, rfl, rfl, rfl, rfl, rfl, rfl, rfl, rfl, rfl, rfl, rfl, rfl⟩

/-- `tallyOne` leaves everything but notices, counters as it was. -/
@[simp] theorem tallyOne_frame (f : Counter → Nat) (s : State) (i : Nat) :
    (tallyOne f s i).pending = s.pending ∧ (tallyOne f s i).inReset = s.inReset ∧ (tallyOne f s i).tables = s.tables ∧
    (tallyOne f s i).layout = s.layout ∧ (tallyOne f s i).validation = s.validation ∧ (tallyOne f s i).store = s.store ∧
    (tallyOne f s i).hazard = s.hazard ∧ (tallyOne f s i).solver = s.solver ∧ (tallyOne f s i).signs = s.signs ∧
    (tallyOne f s i).boundaries = s.boundaries ∧ (tallyOne f s i).mode = s.mode ∧ (tallyOne f s i).portA = s.portA ∧
    (tallyOne f s i).portB = s.portB ∧ (tallyOne f s i).forward = s.forward ∧ (tallyOne f s i).cadence = s.cadence ∧
    (tallyOne f s i).node = s.node ∧ (tallyOne f s i).requests = s.requests ∧ (tallyOne f s i).captures = s.captures ∧
    (tallyOne f s i).uptime = s.uptime ∧ (tallyOne f s i).draws = s.draws := by
  unfold tallyOne
  try dsimp only
  repeat' split
  all_goals simp

/-- `tally` leaves everything but notices, counters as it was. -/
@[simp] theorem tally_frame (f : Counter → Nat) (s : State) :
    (tally f s).pending = s.pending ∧ (tally f s).inReset = s.inReset ∧ (tally f s).tables = s.tables ∧
    (tally f s).layout = s.layout ∧ (tally f s).validation = s.validation ∧ (tally f s).store = s.store ∧
    (tally f s).hazard = s.hazard ∧ (tally f s).solver = s.solver ∧ (tally f s).signs = s.signs ∧
    (tally f s).boundaries = s.boundaries ∧ (tally f s).mode = s.mode ∧ (tally f s).portA = s.portA ∧
    (tally f s).portB = s.portB ∧ (tally f s).forward = s.forward ∧ (tally f s).cadence = s.cadence ∧ (tally f s).node = s.node ∧
    (tally f s).requests = s.requests ∧ (tally f s).captures = s.captures ∧ (tally f s).uptime = s.uptime ∧
    (tally f s).draws = s.draws := by
  unfold tally
  split
  · simp
  · dsimp only
    split <;>
    exact ⟨foldl_field State.pending _ (by simp) _ _, foldl_field State.inReset _ (by simp) _ _,
    foldl_field State.tables _ (by simp) _ _, foldl_field State.layout _ (by simp) _ _,
    foldl_field State.validation _ (by simp) _ _, foldl_field State.store _ (by simp) _ _,
    foldl_field State.hazard _ (by simp) _ _, foldl_field State.solver _ (by simp) _ _,
    foldl_field State.signs _ (by simp) _ _, foldl_field State.boundaries _ (by simp) _ _,
    foldl_field State.mode _ (by simp) _ _, foldl_field State.portA _ (by simp) _ _, foldl_field State.portB _ (by simp) _ _,
    foldl_field State.forward _ (by simp) _ _, foldl_field State.cadence _ (by simp) _ _,
    foldl_field State.node _ (by simp) _ _, foldl_field State.requests _ (by simp) _ _,
    foldl_field State.captures _ (by simp) _ _, foldl_field State.uptime _ (by simp) _ _,
    foldl_field State.draws _ (by simp) _ _⟩

/-- `count` leaves everything but notices, counters as it was. -/
@[simp] theorem count_frame (ev : CounterEvent) (c : Option TClass) (s : State) :
    (count ev c s).pending = s.pending ∧ (count ev c s).inReset = s.inReset ∧ (count ev c s).tables = s.tables ∧
    (count ev c s).layout = s.layout ∧ (count ev c s).validation = s.validation ∧ (count ev c s).store = s.store ∧
    (count ev c s).hazard = s.hazard ∧ (count ev c s).solver = s.solver ∧ (count ev c s).signs = s.signs ∧
    (count ev c s).boundaries = s.boundaries ∧ (count ev c s).mode = s.mode ∧ (count ev c s).portA = s.portA ∧
    (count ev c s).portB = s.portB ∧ (count ev c s).forward = s.forward ∧ (count ev c s).cadence = s.cadence ∧
    (count ev c s).node = s.node ∧ (count ev c s).requests = s.requests ∧ (count ev c s).captures = s.captures ∧
    (count ev c s).uptime = s.uptime ∧ (count ev c s).draws = s.draws := by
  simp [count]

/-- `returnCredit` leaves everything but portA as it was. -/
@[simp] theorem returnCredit_frame (k : CreditKind) (s : State) :
    (returnCredit k s).pending = s.pending ∧ (returnCredit k s).inReset = s.inReset ∧ (returnCredit k s).tables = s.tables ∧
    (returnCredit k s).layout = s.layout ∧ (returnCredit k s).validation = s.validation ∧ (returnCredit k s).store = s.store ∧
    (returnCredit k s).hazard = s.hazard ∧ (returnCredit k s).solver = s.solver ∧ (returnCredit k s).signs = s.signs ∧
    (returnCredit k s).boundaries = s.boundaries ∧ (returnCredit k s).mode = s.mode ∧ (returnCredit k s).portB = s.portB ∧
    (returnCredit k s).forward = s.forward ∧ (returnCredit k s).cadence = s.cadence ∧ (returnCredit k s).node = s.node ∧
    (returnCredit k s).requests = s.requests ∧ (returnCredit k s).notices = s.notices ∧ (returnCredit k s).captures = s.captures ∧
    (returnCredit k s).counters = s.counters ∧ (returnCredit k s).uptime = s.uptime ∧ (returnCredit k s).draws = s.draws := by
  exact ⟨rfl, rfl, rfl, rfl, rfl, rfl, rfl, rfl, rfl, rfl, rfl, rfl, rfl, rfl, rfl, rfl, rfl, rfl, rfl, rfl, rfl⟩

/-- `freeSlot` leaves everything but portA as it was. -/
@[simp] theorem freeSlot_frame (n : Nat) (s : State) :
    (freeSlot n s).pending = s.pending ∧ (freeSlot n s).inReset = s.inReset ∧ (freeSlot n s).tables = s.tables ∧
    (freeSlot n s).layout = s.layout ∧ (freeSlot n s).validation = s.validation ∧ (freeSlot n s).store = s.store ∧
    (freeSlot n s).hazard = s.hazard ∧ (freeSlot n s).solver = s.solver ∧ (freeSlot n s).signs = s.signs ∧
    (freeSlot n s).boundaries = s.boundaries ∧ (freeSlot n s).mode = s.mode ∧ (freeSlot n s).portB = s.portB ∧
    (freeSlot n s).forward = s.forward ∧ (freeSlot n s).cadence = s.cadence ∧ (freeSlot n s).node = s.node ∧
    (freeSlot n s).requests = s.requests ∧ (freeSlot n s).notices = s.notices ∧ (freeSlot n s).captures = s.captures ∧
    (freeSlot n s).counters = s.counters ∧ (freeSlot n s).uptime = s.uptime ∧ (freeSlot n s).draws = s.draws := by
  unfold freeSlot
  try dsimp only
  repeat' split
  all_goals simp

/-- `setWaiting` leaves everything but portA as it was. -/
@[simp] theorem setWaiting_frame (n : Nat) (w : Bool) (s : State) :
    (setWaiting n w s).pending = s.pending ∧ (setWaiting n w s).inReset = s.inReset ∧ (setWaiting n w s).tables = s.tables ∧
    (setWaiting n w s).layout = s.layout ∧ (setWaiting n w s).validation = s.validation ∧ (setWaiting n w s).store = s.store ∧
    (setWaiting n w s).hazard = s.hazard ∧ (setWaiting n w s).solver = s.solver ∧ (setWaiting n w s).signs = s.signs ∧
    (setWaiting n w s).boundaries = s.boundaries ∧ (setWaiting n w s).mode = s.mode ∧ (setWaiting n w s).portB = s.portB ∧
    (setWaiting n w s).forward = s.forward ∧ (setWaiting n w s).cadence = s.cadence ∧ (setWaiting n w s).node = s.node ∧
    (setWaiting n w s).requests = s.requests ∧ (setWaiting n w s).notices = s.notices ∧ (setWaiting n w s).captures = s.captures ∧
    (setWaiting n w s).counters = s.counters ∧ (setWaiting n w s).uptime = s.uptime ∧ (setWaiting n w s).draws = s.draws := by
  exact ⟨rfl, rfl, rfl, rfl, rfl, rfl, rfl, rfl, rfl, rfl, rfl, rfl, rfl, rfl, rfl, rfl, rfl, rfl, rfl, rfl, rfl⟩

/-- `startSolve` leaves everything but solver as it was. -/
@[simp] theorem startSolve_frame (s : State) :
    (startSolve s).pending = s.pending ∧ (startSolve s).inReset = s.inReset ∧ (startSolve s).tables = s.tables ∧
    (startSolve s).layout = s.layout ∧ (startSolve s).validation = s.validation ∧ (startSolve s).store = s.store ∧
    (startSolve s).hazard = s.hazard ∧ (startSolve s).signs = s.signs ∧ (startSolve s).boundaries = s.boundaries ∧
    (startSolve s).mode = s.mode ∧ (startSolve s).portA = s.portA ∧ (startSolve s).portB = s.portB ∧
    (startSolve s).forward = s.forward ∧ (startSolve s).cadence = s.cadence ∧ (startSolve s).node = s.node ∧
    (startSolve s).requests = s.requests ∧ (startSolve s).notices = s.notices ∧ (startSolve s).captures = s.captures ∧
    (startSolve s).counters = s.counters ∧ (startSolve s).uptime = s.uptime ∧ (startSolve s).draws = s.draws := by
  exact ⟨rfl, rfl, rfl, rfl, rfl, rfl, rfl, rfl, rfl, rfl, rfl, rfl, rfl, rfl, rfl, rfl, rfl, rfl, rfl, rfl, rfl⟩

/-- `restartSolve` leaves everything but solver, notices, counters as it was. -/
@[simp] theorem restartSolve_frame (s : State) :
    (restartSolve s).pending = s.pending ∧ (restartSolve s).inReset = s.inReset ∧ (restartSolve s).tables = s.tables ∧
    (restartSolve s).layout = s.layout ∧ (restartSolve s).validation = s.validation ∧ (restartSolve s).store = s.store ∧
    (restartSolve s).hazard = s.hazard ∧ (restartSolve s).signs = s.signs ∧ (restartSolve s).boundaries = s.boundaries ∧
    (restartSolve s).mode = s.mode ∧ (restartSolve s).portA = s.portA ∧ (restartSolve s).portB = s.portB ∧
    (restartSolve s).forward = s.forward ∧ (restartSolve s).cadence = s.cadence ∧ (restartSolve s).node = s.node ∧
    (restartSolve s).requests = s.requests ∧ (restartSolve s).captures = s.captures ∧ (restartSolve s).uptime = s.uptime ∧
    (restartSolve s).draws = s.draws := by
  simp [restartSolve]

/-- `solveTrigger` leaves everything but solver, notices, counters as it was. -/
@[simp] theorem solveTrigger_frame (e : Bool) (s : State) :
    (solveTrigger e s).pending = s.pending ∧ (solveTrigger e s).inReset = s.inReset ∧ (solveTrigger e s).tables = s.tables ∧
    (solveTrigger e s).layout = s.layout ∧ (solveTrigger e s).validation = s.validation ∧ (solveTrigger e s).store = s.store ∧
    (solveTrigger e s).hazard = s.hazard ∧ (solveTrigger e s).signs = s.signs ∧ (solveTrigger e s).boundaries = s.boundaries ∧
    (solveTrigger e s).mode = s.mode ∧ (solveTrigger e s).portA = s.portA ∧ (solveTrigger e s).portB = s.portB ∧
    (solveTrigger e s).forward = s.forward ∧ (solveTrigger e s).cadence = s.cadence ∧ (solveTrigger e s).node = s.node ∧
    (solveTrigger e s).requests = s.requests ∧ (solveTrigger e s).captures = s.captures ∧ (solveTrigger e s).uptime = s.uptime ∧
    (solveTrigger e s).draws = s.draws := by
  unfold solveTrigger
  try dsimp only
  repeat' split
  all_goals simp

end Sys2Proof.Machine
end

