-- ==== Sys2Proof/Laws/Settle.lean ====
section
/-! SUPPORT. The end of a step: what it leaves as it was; what the resend slot offers. -/

namespace Sys2Proof.Machine

/-- `placeBeat` leaves everything but cadence as it was. -/
@[simp] theorem placeBeat_frame (s : State) :
    (placeBeat s).pending = s.pending ∧ (placeBeat s).inReset = s.inReset ∧ (placeBeat s).tables = s.tables ∧
    (placeBeat s).layout = s.layout ∧ (placeBeat s).validation = s.validation ∧ (placeBeat s).store = s.store ∧
    (placeBeat s).hazard = s.hazard ∧ (placeBeat s).solver = s.solver ∧ (placeBeat s).signs = s.signs ∧
    (placeBeat s).boundaries = s.boundaries ∧ (placeBeat s).mode = s.mode ∧ (placeBeat s).portA = s.portA ∧
    (placeBeat s).portB = s.portB ∧ (placeBeat s).forward = s.forward ∧ (placeBeat s).node = s.node ∧
    (placeBeat s).requests = s.requests ∧ (placeBeat s).notices = s.notices ∧ (placeBeat s).captures = s.captures ∧
    (placeBeat s).counters = s.counters ∧ (placeBeat s).uptime = s.uptime ∧ (placeBeat s).draws = s.draws := by
  exact ⟨rfl, rfl, rfl, rfl, rfl, rfl, rfl, rfl, rfl, rfl, rfl, rfl, rfl, rfl, rfl, rfl, rfl, rfl, rfl, rfl, rfl⟩

/-- `startBeatTimer` leaves everything but cadence as it was. -/
@[simp] theorem startBeatTimer_frame (s : State) :
    (startBeatTimer s).pending = s.pending ∧ (startBeatTimer s).inReset = s.inReset ∧ (startBeatTimer s).tables = s.tables ∧
    (startBeatTimer s).layout = s.layout ∧ (startBeatTimer s).validation = s.validation ∧ (startBeatTimer s).store = s.store ∧
    (startBeatTimer s).hazard = s.hazard ∧ (startBeatTimer s).solver = s.solver ∧ (startBeatTimer s).signs = s.signs ∧
    (startBeatTimer s).boundaries = s.boundaries ∧ (startBeatTimer s).mode = s.mode ∧ (startBeatTimer s).portA = s.portA ∧
    (startBeatTimer s).portB = s.portB ∧ (startBeatTimer s).forward = s.forward ∧ (startBeatTimer s).node = s.node ∧
    (startBeatTimer s).requests = s.requests ∧ (startBeatTimer s).notices = s.notices ∧ (startBeatTimer s).captures = s.captures ∧
    (startBeatTimer s).counters = s.counters ∧ (startBeatTimer s).uptime = s.uptime ∧ (startBeatTimer s).draws = s.draws := by
  exact ⟨rfl, rfl, rfl, rfl, rfl, rfl, rfl, rfl, rfl, rfl, rfl, rfl, rfl, rfl, rfl, rfl, rfl, rfl, rfl, rfl, rfl⟩

/-- `restartBeats` leaves everything but cadence as it was. -/
@[simp] theorem restartBeats_frame (s : State) :
    (restartBeats s).pending = s.pending ∧ (restartBeats s).inReset = s.inReset ∧ (restartBeats s).tables = s.tables ∧
    (restartBeats s).layout = s.layout ∧ (restartBeats s).validation = s.validation ∧ (restartBeats s).store = s.store ∧
    (restartBeats s).hazard = s.hazard ∧ (restartBeats s).solver = s.solver ∧ (restartBeats s).signs = s.signs ∧
    (restartBeats s).boundaries = s.boundaries ∧ (restartBeats s).mode = s.mode ∧ (restartBeats s).portA = s.portA ∧
    (restartBeats s).portB = s.portB ∧ (restartBeats s).forward = s.forward ∧ (restartBeats s).node = s.node ∧
    (restartBeats s).requests = s.requests ∧ (restartBeats s).notices = s.notices ∧ (restartBeats s).captures = s.captures ∧
    (restartBeats s).counters = s.counters ∧ (restartBeats s).uptime = s.uptime ∧ (restartBeats s).draws = s.draws := by
  unfold restartBeats
  try dsimp only
  repeat' split
  all_goals simp

/-- `settleBeat` leaves everything but cadence as it was. -/
@[simp] theorem settleBeat_frame (b s : State) :
    (settleBeat b s).pending = s.pending ∧ (settleBeat b s).inReset = s.inReset ∧ (settleBeat b s).tables = s.tables ∧
    (settleBeat b s).layout = s.layout ∧ (settleBeat b s).validation = s.validation ∧ (settleBeat b s).store = s.store ∧
    (settleBeat b s).hazard = s.hazard ∧ (settleBeat b s).solver = s.solver ∧ (settleBeat b s).signs = s.signs ∧
    (settleBeat b s).boundaries = s.boundaries ∧ (settleBeat b s).mode = s.mode ∧ (settleBeat b s).portA = s.portA ∧
    (settleBeat b s).portB = s.portB ∧ (settleBeat b s).forward = s.forward ∧ (settleBeat b s).node = s.node ∧
    (settleBeat b s).requests = s.requests ∧ (settleBeat b s).notices = s.notices ∧ (settleBeat b s).captures = s.captures ∧
    (settleBeat b s).counters = s.counters ∧ (settleBeat b s).uptime = s.uptime ∧ (settleBeat b s).draws = s.draws := by
  unfold settleBeat
  try dsimp only
  repeat' split
  all_goals simp

/-- `settleRefresh` leaves everything but signs as it was. -/
@[simp] theorem settleRefresh_frame (b s : State) :
    (settleRefresh b s).pending = s.pending ∧ (settleRefresh b s).inReset = s.inReset ∧ (settleRefresh b s).tables = s.tables ∧
    (settleRefresh b s).layout = s.layout ∧ (settleRefresh b s).validation = s.validation ∧ (settleRefresh b s).store = s.store ∧
    (settleRefresh b s).hazard = s.hazard ∧ (settleRefresh b s).solver = s.solver ∧
    (settleRefresh b s).boundaries = s.boundaries ∧ (settleRefresh b s).mode = s.mode ∧ (settleRefresh b s).portA = s.portA ∧
    (settleRefresh b s).portB = s.portB ∧ (settleRefresh b s).forward = s.forward ∧ (settleRefresh b s).cadence = s.cadence ∧
    (settleRefresh b s).node = s.node ∧ (settleRefresh b s).requests = s.requests ∧ (settleRefresh b s).notices = s.notices ∧
    (settleRefresh b s).captures = s.captures ∧ (settleRefresh b s).counters = s.counters ∧
    (settleRefresh b s).uptime = s.uptime ∧ (settleRefresh b s).draws = s.draws := by
  unfold settleRefresh
  try dsimp only
  repeat' split
  all_goals simp

/-- `settleDefault` leaves everything but signs as it was. -/
@[simp] theorem settleDefault_frame (b s : State) :
    (settleDefault b s).pending = s.pending ∧ (settleDefault b s).inReset = s.inReset ∧ (settleDefault b s).tables = s.tables ∧
    (settleDefault b s).layout = s.layout ∧ (settleDefault b s).validation = s.validation ∧ (settleDefault b s).store = s.store ∧
    (settleDefault b s).hazard = s.hazard ∧ (settleDefault b s).solver = s.solver ∧
    (settleDefault b s).boundaries = s.boundaries ∧ (settleDefault b s).mode = s.mode ∧ (settleDefault b s).portA = s.portA ∧
    (settleDefault b s).portB = s.portB ∧ (settleDefault b s).forward = s.forward ∧ (settleDefault b s).cadence = s.cadence ∧
    (settleDefault b s).node = s.node ∧ (settleDefault b s).requests = s.requests ∧ (settleDefault b s).notices = s.notices ∧
    (settleDefault b s).captures = s.captures ∧ (settleDefault b s).counters = s.counters ∧
    (settleDefault b s).uptime = s.uptime ∧ (settleDefault b s).draws = s.draws := by
  unfold settleDefault
  try dsimp only
  repeat' split
  all_goals simp

/-- `settleStalls` leaves everything but forward as it was. -/
@[simp] theorem settleStalls_frame (s : State) :
    (settleStalls s).pending = s.pending ∧ (settleStalls s).inReset = s.inReset ∧ (settleStalls s).tables = s.tables ∧
    (settleStalls s).layout = s.layout ∧ (settleStalls s).validation = s.validation ∧ (settleStalls s).store = s.store ∧
    (settleStalls s).hazard = s.hazard ∧ (settleStalls s).solver = s.solver ∧ (settleStalls s).signs = s.signs ∧
    (settleStalls s).boundaries = s.boundaries ∧ (settleStalls s).mode = s.mode ∧ (settleStalls s).portA = s.portA ∧
    (settleStalls s).portB = s.portB ∧ (settleStalls s).cadence = s.cadence ∧ (settleStalls s).node = s.node ∧
    (settleStalls s).requests = s.requests ∧ (settleStalls s).notices = s.notices ∧ (settleStalls s).captures = s.captures ∧
    (settleStalls s).counters = s.counters ∧ (settleStalls s).uptime = s.uptime ∧ (settleStalls s).draws = s.draws := by
  exact ⟨rfl, rfl, rfl, rfl, rfl, rfl, rfl, rfl, rfl, rfl, rfl, rfl, rfl, rfl, rfl, rfl, rfl, rfl, rfl, rfl, rfl⟩

/-- `settle` leaves everything but signs, forward, cadence as it was. -/
@[simp] theorem settle_frame (b s : State) :
    (settle b s).pending = s.pending ∧ (settle b s).inReset = s.inReset ∧ (settle b s).tables = s.tables ∧
    (settle b s).layout = s.layout ∧ (settle b s).validation = s.validation ∧ (settle b s).store = s.store ∧
    (settle b s).hazard = s.hazard ∧ (settle b s).solver = s.solver ∧ (settle b s).boundaries = s.boundaries ∧
    (settle b s).mode = s.mode ∧ (settle b s).portA = s.portA ∧ (settle b s).portB = s.portB ∧ (settle b s).node = s.node ∧
    (settle b s).requests = s.requests ∧ (settle b s).notices = s.notices ∧ (settle b s).captures = s.captures ∧
    (settle b s).counters = s.counters ∧ (settle b s).uptime = s.uptime ∧ (settle b s).draws = s.draws := by
  simp [settle]

/-- The resend slot offers the telegram it holds where that may be sent now, and nothing else. -/
theorem resendOffer_iff (s : State) (m : Telegram) :
    resendOffer s = some m ↔ s.forward.resend = some m ∧ mayResend s m = true := by
  unfold resendOffer
  split
  · next h => simp [h]
  · next x h =>
    simp only [h, Option.some.injEq]
    split
    · next hm => exact ⟨fun e => by cases e; exact ⟨rfl, hm⟩, fun e => by rw [e.1]⟩
    · next hm => exact ⟨fun e => (nomatch e), fun e => absurd (e.1 ▸ e.2) hm⟩

/-- When a telegram may be offered from the resend slot. -/
theorem mayResend_iff (s : State) (m : Telegram) :
    mayResend s m = true ↔ addressed s = true ∧ ¬(m.isKind .sign 1 = true ∧ (s.mode.mode = .maint ∨ s.mode.frozen = true)) := by
  unfold mayResend
  cases addressed s <;> cases m.isKind .sign 1 <;> cases s.mode.frozen <;> by_cases hm : s.mode.mode = .maint <;> simp [hm]

/-- While unaddressed the resend slot offers nothing. -/
theorem resendOffer_unaddressed {s : State} (h : addressed s = false) : resendOffer s = none := by
  cases hr : resendOffer s with
  | none => rfl
  | some m => exact absurd (((mayResend_iff s m).mp ((resendOffer_iff s m).mp hr).2).1) (by simp [h])

end Sys2Proof.Machine
end

