-- ==== Sys2Proof/Laws/Boundary.lean ====
section
/-! SUPPORT. The boundary exchange: what its operations leave as it was, and what a commit's adverts are computed from. -/

namespace Sys2Proof.Machine

/-- `advertMatched` leaves everything but solver, boundaries, notices, counters as it was. -/
@[simp] theorem advertMatched_frame (b c : Nat) (a : AdvertTier) (s : State) :
    (advertMatched b c a s).pending = s.pending ∧ (advertMatched b c a s).inReset = s.inReset ∧
    (advertMatched b c a s).tables = s.tables ∧ (advertMatched b c a s).layout = s.layout ∧
    (advertMatched b c a s).validation = s.validation ∧ (advertMatched b c a s).store = s.store ∧
    (advertMatched b c a s).hazard = s.hazard ∧ (advertMatched b c a s).signs = s.signs ∧ (advertMatched b c a s).mode = s.mode ∧
    (advertMatched b c a s).portA = s.portA ∧ (advertMatched b c a s).portB = s.portB ∧
    (advertMatched b c a s).forward = s.forward ∧ (advertMatched b c a s).cadence = s.cadence ∧
    (advertMatched b c a s).node = s.node ∧ (advertMatched b c a s).requests = s.requests ∧
    (advertMatched b c a s).captures = s.captures ∧ (advertMatched b c a s).uptime = s.uptime ∧
    (advertMatched b c a s).draws = s.draws := by
  unfold advertMatched
  try dsimp only
  repeat' split
  all_goals simp

/-- `matchAdvert` leaves everything but solver, boundaries, notices, counters as it was. -/
@[simp] theorem matchAdvert_frame (x i c : Nat) (a : AdvertTier) (s : State) :
    (matchAdvert x i c a s).pending = s.pending ∧ (matchAdvert x i c a s).inReset = s.inReset ∧
    (matchAdvert x i c a s).tables = s.tables ∧ (matchAdvert x i c a s).layout = s.layout ∧
    (matchAdvert x i c a s).validation = s.validation ∧ (matchAdvert x i c a s).store = s.store ∧
    (matchAdvert x i c a s).hazard = s.hazard ∧ (matchAdvert x i c a s).signs = s.signs ∧ (matchAdvert x i c a s).mode = s.mode ∧
    (matchAdvert x i c a s).portA = s.portA ∧ (matchAdvert x i c a s).portB = s.portB ∧
    (matchAdvert x i c a s).forward = s.forward ∧ (matchAdvert x i c a s).cadence = s.cadence ∧
    (matchAdvert x i c a s).node = s.node ∧ (matchAdvert x i c a s).requests = s.requests ∧
    (matchAdvert x i c a s).captures = s.captures ∧ (matchAdvert x i c a s).uptime = s.uptime ∧
    (matchAdvert x i c a s).draws = s.draws := by
  unfold matchAdvert
  try dsimp only
  repeat' split
  all_goals simp

/-- `takeAdvert` leaves everything but solver, boundaries, notices, counters as it was. -/
@[simp] theorem takeAdvert_frame (t : Telegram) (s : State) :
    (takeAdvert t s).pending = s.pending ∧ (takeAdvert t s).inReset = s.inReset ∧ (takeAdvert t s).tables = s.tables ∧
    (takeAdvert t s).layout = s.layout ∧ (takeAdvert t s).validation = s.validation ∧ (takeAdvert t s).store = s.store ∧
    (takeAdvert t s).hazard = s.hazard ∧ (takeAdvert t s).signs = s.signs ∧ (takeAdvert t s).mode = s.mode ∧
    (takeAdvert t s).portA = s.portA ∧ (takeAdvert t s).portB = s.portB ∧ (takeAdvert t s).forward = s.forward ∧
    (takeAdvert t s).cadence = s.cadence ∧ (takeAdvert t s).node = s.node ∧ (takeAdvert t s).requests = s.requests ∧
    (takeAdvert t s).captures = s.captures ∧ (takeAdvert t s).uptime = s.uptime ∧ (takeAdvert t s).draws = s.draws := by
  unfold takeAdvert
  try dsimp only
  repeat' split
  all_goals simp

/-- `joinDue` leaves everything but boundaries as it was. -/
@[simp] theorem joinDue_frame (b : Nat) (s : State) :
    (joinDue b s).pending = s.pending ∧ (joinDue b s).inReset = s.inReset ∧ (joinDue b s).tables = s.tables ∧
    (joinDue b s).layout = s.layout ∧ (joinDue b s).validation = s.validation ∧ (joinDue b s).store = s.store ∧
    (joinDue b s).hazard = s.hazard ∧ (joinDue b s).solver = s.solver ∧ (joinDue b s).signs = s.signs ∧
    (joinDue b s).mode = s.mode ∧ (joinDue b s).portA = s.portA ∧ (joinDue b s).portB = s.portB ∧
    (joinDue b s).forward = s.forward ∧ (joinDue b s).cadence = s.cadence ∧ (joinDue b s).node = s.node ∧
    (joinDue b s).requests = s.requests ∧ (joinDue b s).notices = s.notices ∧ (joinDue b s).captures = s.captures ∧
    (joinDue b s).counters = s.counters ∧ (joinDue b s).uptime = s.uptime ∧ (joinDue b s).draws = s.draws := by
  unfold joinDue
  try dsimp only
  repeat' split
  all_goals simp

/-- `ownAdvert` leaves everything but boundaries as it was. -/
@[simp] theorem ownAdvert_frame (rs : List SolRec) (s : State) (b : Nat) :
    (ownAdvert rs s b).pending = s.pending ∧ (ownAdvert rs s b).inReset = s.inReset ∧ (ownAdvert rs s b).tables = s.tables ∧
    (ownAdvert rs s b).layout = s.layout ∧ (ownAdvert rs s b).validation = s.validation ∧ (ownAdvert rs s b).store = s.store ∧
    (ownAdvert rs s b).hazard = s.hazard ∧ (ownAdvert rs s b).solver = s.solver ∧ (ownAdvert rs s b).signs = s.signs ∧
    (ownAdvert rs s b).mode = s.mode ∧ (ownAdvert rs s b).portA = s.portA ∧ (ownAdvert rs s b).portB = s.portB ∧
    (ownAdvert rs s b).forward = s.forward ∧ (ownAdvert rs s b).cadence = s.cadence ∧ (ownAdvert rs s b).node = s.node ∧
    (ownAdvert rs s b).requests = s.requests ∧ (ownAdvert rs s b).notices = s.notices ∧ (ownAdvert rs s b).captures = s.captures ∧
    (ownAdvert rs s b).counters = s.counters ∧ (ownAdvert rs s b).uptime = s.uptime ∧ (ownAdvert rs s b).draws = s.draws := by
  unfold ownAdvert
  try dsimp only
  repeat' split
  all_goals simp

/-- `ownAdverts` leaves everything but boundaries as it was. -/
@[simp] theorem ownAdverts_frame (rs : List SolRec) (s : State) :
    (ownAdverts rs s).pending = s.pending ∧ (ownAdverts rs s).inReset = s.inReset ∧ (ownAdverts rs s).tables = s.tables ∧
    (ownAdverts rs s).layout = s.layout ∧ (ownAdverts rs s).validation = s.validation ∧ (ownAdverts rs s).store = s.store ∧
    (ownAdverts rs s).hazard = s.hazard ∧ (ownAdverts rs s).solver = s.solver ∧ (ownAdverts rs s).signs = s.signs ∧
    (ownAdverts rs s).mode = s.mode ∧ (ownAdverts rs s).portA = s.portA ∧ (ownAdverts rs s).portB = s.portB ∧
    (ownAdverts rs s).forward = s.forward ∧ (ownAdverts rs s).cadence = s.cadence ∧ (ownAdverts rs s).node = s.node ∧
    (ownAdverts rs s).requests = s.requests ∧ (ownAdverts rs s).notices = s.notices ∧ (ownAdverts rs s).captures = s.captures ∧
    (ownAdverts rs s).counters = s.counters ∧ (ownAdverts rs s).uptime = s.uptime ∧ (ownAdverts rs s).draws = s.draws := by
  unfold ownAdverts
  exact ⟨foldl_field State.pending _ (by simp) _ _, foldl_field State.inReset _ (by simp) _ _,
    foldl_field State.tables _ (by simp) _ _, foldl_field State.layout _ (by simp) _ _,
    foldl_field State.validation _ (by simp) _ _, foldl_field State.store _ (by simp) _ _,
    foldl_field State.hazard _ (by simp) _ _, foldl_field State.solver _ (by simp) _ _,
    foldl_field State.signs _ (by simp) _ _, foldl_field State.mode _ (by simp) _ _, foldl_field State.portA _ (by simp) _ _,
    foldl_field State.portB _ (by simp) _ _, foldl_field State.forward _ (by simp) _ _,
    foldl_field State.cadence _ (by simp) _ _, foldl_field State.node _ (by simp) _ _,
    foldl_field State.requests _ (by simp) _ _, foldl_field State.notices _ (by simp) _ _,
    foldl_field State.captures _ (by simp) _ _, foldl_field State.counters _ (by simp) _ _,
    foldl_field State.uptime _ (by simp) _ _, foldl_field State.draws _ (by simp) _ _⟩

/-- `advertTaken` leaves everything but boundaries as it was. -/
@[simp] theorem advertTaken_frame (b : Nat) (s : State) :
    (advertTaken b s).pending = s.pending ∧ (advertTaken b s).inReset = s.inReset ∧ (advertTaken b s).tables = s.tables ∧
    (advertTaken b s).layout = s.layout ∧ (advertTaken b s).validation = s.validation ∧ (advertTaken b s).store = s.store ∧
    (advertTaken b s).hazard = s.hazard ∧ (advertTaken b s).solver = s.solver ∧ (advertTaken b s).signs = s.signs ∧
    (advertTaken b s).mode = s.mode ∧ (advertTaken b s).portA = s.portA ∧ (advertTaken b s).portB = s.portB ∧
    (advertTaken b s).forward = s.forward ∧ (advertTaken b s).cadence = s.cadence ∧ (advertTaken b s).node = s.node ∧
    (advertTaken b s).requests = s.requests ∧ (advertTaken b s).notices = s.notices ∧ (advertTaken b s).captures = s.captures ∧
    (advertTaken b s).counters = s.counters ∧ (advertTaken b s).uptime = s.uptime ∧ (advertTaken b s).draws = s.draws := by
  simp [advertTaken]

/-- `clearDue` leaves everything but boundaries as it was. -/
@[simp] theorem clearDue_frame (s : State) :
    (clearDue s).pending = s.pending ∧ (clearDue s).inReset = s.inReset ∧ (clearDue s).tables = s.tables ∧
    (clearDue s).layout = s.layout ∧ (clearDue s).validation = s.validation ∧ (clearDue s).store = s.store ∧
    (clearDue s).hazard = s.hazard ∧ (clearDue s).solver = s.solver ∧ (clearDue s).signs = s.signs ∧ (clearDue s).mode = s.mode ∧
    (clearDue s).portA = s.portA ∧ (clearDue s).portB = s.portB ∧ (clearDue s).forward = s.forward ∧
    (clearDue s).cadence = s.cadence ∧ (clearDue s).node = s.node ∧ (clearDue s).requests = s.requests ∧
    (clearDue s).notices = s.notices ∧ (clearDue s).captures = s.captures ∧ (clearDue s).counters = s.counters ∧
    (clearDue s).uptime = s.uptime ∧ (clearDue s).draws = s.draws := by
  simp [clearDue]

/-- `boundariesActivate` leaves everything but boundaries as it was. -/
@[simp] theorem boundariesActivate_frame (s : State) :
    (boundariesActivate s).pending = s.pending ∧ (boundariesActivate s).inReset = s.inReset ∧
    (boundariesActivate s).tables = s.tables ∧ (boundariesActivate s).layout = s.layout ∧
    (boundariesActivate s).validation = s.validation ∧ (boundariesActivate s).store = s.store ∧
    (boundariesActivate s).hazard = s.hazard ∧ (boundariesActivate s).solver = s.solver ∧ (boundariesActivate s).signs = s.signs ∧
    (boundariesActivate s).mode = s.mode ∧ (boundariesActivate s).portA = s.portA ∧ (boundariesActivate s).portB = s.portB ∧
    (boundariesActivate s).forward = s.forward ∧ (boundariesActivate s).cadence = s.cadence ∧
    (boundariesActivate s).node = s.node ∧ (boundariesActivate s).requests = s.requests ∧
    (boundariesActivate s).notices = s.notices ∧ (boundariesActivate s).captures = s.captures ∧
    (boundariesActivate s).counters = s.counters ∧ (boundariesActivate s).uptime = s.uptime ∧
    (boundariesActivate s).draws = s.draws := by
  simp [boundariesActivate]

/-- `boundariesWithdraw` leaves everything but boundaries as it was. -/
@[simp] theorem boundariesWithdraw_frame (s : State) :
    (boundariesWithdraw s).pending = s.pending ∧ (boundariesWithdraw s).inReset = s.inReset ∧
    (boundariesWithdraw s).tables = s.tables ∧ (boundariesWithdraw s).layout = s.layout ∧
    (boundariesWithdraw s).validation = s.validation ∧ (boundariesWithdraw s).store = s.store ∧
    (boundariesWithdraw s).hazard = s.hazard ∧ (boundariesWithdraw s).solver = s.solver ∧ (boundariesWithdraw s).signs = s.signs ∧
    (boundariesWithdraw s).mode = s.mode ∧ (boundariesWithdraw s).portA = s.portA ∧ (boundariesWithdraw s).portB = s.portB ∧
    (boundariesWithdraw s).forward = s.forward ∧ (boundariesWithdraw s).cadence = s.cadence ∧
    (boundariesWithdraw s).node = s.node ∧ (boundariesWithdraw s).requests = s.requests ∧
    (boundariesWithdraw s).notices = s.notices ∧ (boundariesWithdraw s).captures = s.captures ∧
    (boundariesWithdraw s).counters = s.counters ∧ (boundariesWithdraw s).uptime = s.uptime ∧
    (boundariesWithdraw s).draws = s.draws := by
  simp [boundariesWithdraw]

/-- `duePeriodic` leaves everything but boundaries as it was. -/
@[simp] theorem duePeriodic_frame (s : State) (b : Nat) :
    (duePeriodic s b).pending = s.pending ∧ (duePeriodic s b).inReset = s.inReset ∧ (duePeriodic s b).tables = s.tables ∧
    (duePeriodic s b).layout = s.layout ∧ (duePeriodic s b).validation = s.validation ∧ (duePeriodic s b).store = s.store ∧
    (duePeriodic s b).hazard = s.hazard ∧ (duePeriodic s b).solver = s.solver ∧ (duePeriodic s b).signs = s.signs ∧
    (duePeriodic s b).mode = s.mode ∧ (duePeriodic s b).portA = s.portA ∧ (duePeriodic s b).portB = s.portB ∧
    (duePeriodic s b).forward = s.forward ∧ (duePeriodic s b).cadence = s.cadence ∧ (duePeriodic s b).node = s.node ∧
    (duePeriodic s b).requests = s.requests ∧ (duePeriodic s b).notices = s.notices ∧ (duePeriodic s b).captures = s.captures ∧
    (duePeriodic s b).counters = s.counters ∧ (duePeriodic s b).uptime = s.uptime ∧ (duePeriodic s b).draws = s.draws := by
  unfold duePeriodic
  try dsimp only
  repeat' split
  all_goals simp

/-- What a commit gives the boundaries depends on the tables, the layout, the address and the boundaries alone. -/
theorem ownAdverts_congr {s u : State} (records : List SolRec) (ht : s.tables = u.tables) (hl : s.layout = u.layout)
    (hn : s.node = u.node) (hb : s.boundaries = u.boundaries) :
    (ownAdverts records s).boundaries = (ownAdverts records u).boundaries := by
  unfold ownAdverts
  generalize List.range Config.boundaryCount = bs
  induction bs generalizing s u with
  | nil => exact hb
  | cons b bs ih =>
    refine ih (by simpa using ht) (by simpa using hl) (by simpa using hn) ?_
    have hr : boundaryRt s b = boundaryRt u b := by simp [boundaryRt, hb]
    have ha : boundaryActive s b = boundaryActive u b := by simp [boundaryActive, ht, hl]
    have hd : addressed s = addressed u := by simp [addressed, hn]
    have hs : ∀ r, (setBoundaryRt s b r).boundaries = (setBoundaryRt u b r).boundaries := by simp [setBoundaryRt, hb]
    have hj : ∀ r, (joinDue b (setBoundaryRt s b r)).boundaries = (joinDue b (setBoundaryRt u b r)).boundaries := by
      intro r
      have e : ∀ w : State, addressed (setBoundaryRt w b r) = addressed w := fun w => rfl
      unfold joinDue
      rw [e, e, hd]
      cases addressed u <;> simp [setBoundaryRt, boundaryRt, hb]
    unfold ownAdvert
    rw [ha, hr, ht]
    dsimp only
    generalize advertOf b _ = a
    cases boundaryActive u b
    · exact hb
    · by_cases h : (boundaryRt u b).last = some a
      · simp only [h, if_true]; exact hs _
      · simp only [h, if_true, if_false]; exact hj _

end Sys2Proof.Machine
end

