-- ==== Sys2Proof/Laws/Signs.lean ====
section
/-! SUPPORT. The sign scheduler: what its operations leave as it was, and what an evaluation and the presentation rule read. -/

namespace Sys2Proof.Machine

/-- `leaveQueue` leaves everything but signs as it was. -/
@[simp] theorem leaveQueue_frame (i : Nat) (s : State) :
    (leaveQueue i s).pending = s.pending ∧ (leaveQueue i s).inReset = s.inReset ∧ (leaveQueue i s).tables = s.tables ∧
    (leaveQueue i s).layout = s.layout ∧ (leaveQueue i s).validation = s.validation ∧ (leaveQueue i s).store = s.store ∧
    (leaveQueue i s).hazard = s.hazard ∧ (leaveQueue i s).solver = s.solver ∧ (leaveQueue i s).boundaries = s.boundaries ∧
    (leaveQueue i s).mode = s.mode ∧ (leaveQueue i s).portA = s.portA ∧ (leaveQueue i s).portB = s.portB ∧
    (leaveQueue i s).forward = s.forward ∧ (leaveQueue i s).cadence = s.cadence ∧ (leaveQueue i s).node = s.node ∧
    (leaveQueue i s).requests = s.requests ∧ (leaveQueue i s).notices = s.notices ∧ (leaveQueue i s).captures = s.captures ∧
    (leaveQueue i s).counters = s.counters ∧ (leaveQueue i s).uptime = s.uptime ∧ (leaveQueue i s).draws = s.draws := by
  exact ⟨rfl, rfl, rfl, rfl, rfl, rfl, rfl, rfl, rfl, rfl, rfl, rfl, rfl, rfl, rfl, rfl, rfl, rfl, rfl, rfl, rfl⟩

/-- `joinOrdinary` leaves everything but signs as it was. -/
@[simp] theorem joinOrdinary_frame (i : Nat) (s : State) :
    (joinOrdinary i s).pending = s.pending ∧ (joinOrdinary i s).inReset = s.inReset ∧ (joinOrdinary i s).tables = s.tables ∧
    (joinOrdinary i s).layout = s.layout ∧ (joinOrdinary i s).validation = s.validation ∧ (joinOrdinary i s).store = s.store ∧
    (joinOrdinary i s).hazard = s.hazard ∧ (joinOrdinary i s).solver = s.solver ∧ (joinOrdinary i s).boundaries = s.boundaries ∧
    (joinOrdinary i s).mode = s.mode ∧ (joinOrdinary i s).portA = s.portA ∧ (joinOrdinary i s).portB = s.portB ∧
    (joinOrdinary i s).forward = s.forward ∧ (joinOrdinary i s).cadence = s.cadence ∧ (joinOrdinary i s).node = s.node ∧
    (joinOrdinary i s).requests = s.requests ∧ (joinOrdinary i s).notices = s.notices ∧ (joinOrdinary i s).captures = s.captures ∧
    (joinOrdinary i s).counters = s.counters ∧ (joinOrdinary i s).uptime = s.uptime ∧ (joinOrdinary i s).draws = s.draws := by
  unfold joinOrdinary
  try dsimp only
  repeat' split
  all_goals simp

/-- `joinForced` leaves everything but signs as it was. -/
@[simp] theorem joinForced_frame (i : Nat) (s : State) :
    (joinForced i s).pending = s.pending ∧ (joinForced i s).inReset = s.inReset ∧ (joinForced i s).tables = s.tables ∧
    (joinForced i s).layout = s.layout ∧ (joinForced i s).validation = s.validation ∧ (joinForced i s).store = s.store ∧
    (joinForced i s).hazard = s.hazard ∧ (joinForced i s).solver = s.solver ∧ (joinForced i s).boundaries = s.boundaries ∧
    (joinForced i s).mode = s.mode ∧ (joinForced i s).portA = s.portA ∧ (joinForced i s).portB = s.portB ∧
    (joinForced i s).forward = s.forward ∧ (joinForced i s).cadence = s.cadence ∧ (joinForced i s).node = s.node ∧
    (joinForced i s).requests = s.requests ∧ (joinForced i s).notices = s.notices ∧ (joinForced i s).captures = s.captures ∧
    (joinForced i s).counters = s.counters ∧ (joinForced i s).uptime = s.uptime ∧ (joinForced i s).draws = s.draws := by
  unfold joinForced
  try dsimp only
  repeat' split
  all_goals simp

/-- `emptyQueue` leaves everything but signs as it was. -/
@[simp] theorem emptyQueue_frame (s : State) :
    (emptyQueue s).pending = s.pending ∧ (emptyQueue s).inReset = s.inReset ∧ (emptyQueue s).tables = s.tables ∧
    (emptyQueue s).layout = s.layout ∧ (emptyQueue s).validation = s.validation ∧ (emptyQueue s).store = s.store ∧
    (emptyQueue s).hazard = s.hazard ∧ (emptyQueue s).solver = s.solver ∧ (emptyQueue s).boundaries = s.boundaries ∧
    (emptyQueue s).mode = s.mode ∧ (emptyQueue s).portA = s.portA ∧ (emptyQueue s).portB = s.portB ∧
    (emptyQueue s).forward = s.forward ∧ (emptyQueue s).cadence = s.cadence ∧ (emptyQueue s).node = s.node ∧
    (emptyQueue s).requests = s.requests ∧ (emptyQueue s).notices = s.notices ∧ (emptyQueue s).captures = s.captures ∧
    (emptyQueue s).counters = s.counters ∧ (emptyQueue s).uptime = s.uptime ∧ (emptyQueue s).draws = s.draws := by
  exact ⟨rfl, rfl, rfl, rfl, rfl, rfl, rfl, rfl, rfl, rfl, rfl, rfl, rfl, rfl, rfl, rfl, rfl, rfl, rfl, rfl, rfl⟩

/-- `setHeld` leaves everything but signs as it was. -/
@[simp] theorem setHeld_frame (i : Nat) (h : Bool) (s : State) :
    (setHeld i h s).pending = s.pending ∧ (setHeld i h s).inReset = s.inReset ∧ (setHeld i h s).tables = s.tables ∧
    (setHeld i h s).layout = s.layout ∧ (setHeld i h s).validation = s.validation ∧ (setHeld i h s).store = s.store ∧
    (setHeld i h s).hazard = s.hazard ∧ (setHeld i h s).solver = s.solver ∧ (setHeld i h s).boundaries = s.boundaries ∧
    (setHeld i h s).mode = s.mode ∧ (setHeld i h s).portA = s.portA ∧ (setHeld i h s).portB = s.portB ∧
    (setHeld i h s).forward = s.forward ∧ (setHeld i h s).cadence = s.cadence ∧ (setHeld i h s).node = s.node ∧
    (setHeld i h s).requests = s.requests ∧ (setHeld i h s).notices = s.notices ∧ (setHeld i h s).captures = s.captures ∧
    (setHeld i h s).counters = s.counters ∧ (setHeld i h s).uptime = s.uptime ∧ (setHeld i h s).draws = s.draws := by
  simp [setHeld]

/-- `evaluate` leaves everything but signs as it was. -/
@[simp] theorem evaluate_frame (i : Nat) (s : State) :
    (evaluate i s).pending = s.pending ∧ (evaluate i s).inReset = s.inReset ∧ (evaluate i s).tables = s.tables ∧
    (evaluate i s).layout = s.layout ∧ (evaluate i s).validation = s.validation ∧ (evaluate i s).store = s.store ∧
    (evaluate i s).hazard = s.hazard ∧ (evaluate i s).solver = s.solver ∧ (evaluate i s).boundaries = s.boundaries ∧
    (evaluate i s).mode = s.mode ∧ (evaluate i s).portA = s.portA ∧ (evaluate i s).portB = s.portB ∧
    (evaluate i s).forward = s.forward ∧ (evaluate i s).cadence = s.cadence ∧ (evaluate i s).node = s.node ∧
    (evaluate i s).requests = s.requests ∧ (evaluate i s).notices = s.notices ∧ (evaluate i s).captures = s.captures ∧
    (evaluate i s).counters = s.counters ∧ (evaluate i s).uptime = s.uptime ∧ (evaluate i s).draws = s.draws := by
  unfold evaluate
  try dsimp only
  repeat' split
  all_goals simp

/-- `represent` leaves everything but signs as it was. -/
@[simp] theorem represent_frame (s : State) (i : Nat) :
    (represent s i).pending = s.pending ∧ (represent s i).inReset = s.inReset ∧ (represent s i).tables = s.tables ∧
    (represent s i).layout = s.layout ∧ (represent s i).validation = s.validation ∧ (represent s i).store = s.store ∧
    (represent s i).hazard = s.hazard ∧ (represent s i).solver = s.solver ∧ (represent s i).boundaries = s.boundaries ∧
    (represent s i).mode = s.mode ∧ (represent s i).portA = s.portA ∧ (represent s i).portB = s.portB ∧
    (represent s i).forward = s.forward ∧ (represent s i).cadence = s.cadence ∧ (represent s i).node = s.node ∧
    (represent s i).requests = s.requests ∧ (represent s i).notices = s.notices ∧ (represent s i).captures = s.captures ∧
    (represent s i).counters = s.counters ∧ (represent s i).uptime = s.uptime ∧ (represent s i).draws = s.draws := by
  simp [represent]

/-- `presentAll` leaves everything but signs as it was. -/
@[simp] theorem presentAll_frame (s : State) :
    (presentAll s).pending = s.pending ∧ (presentAll s).inReset = s.inReset ∧ (presentAll s).tables = s.tables ∧
    (presentAll s).layout = s.layout ∧ (presentAll s).validation = s.validation ∧ (presentAll s).store = s.store ∧
    (presentAll s).hazard = s.hazard ∧ (presentAll s).solver = s.solver ∧ (presentAll s).boundaries = s.boundaries ∧
    (presentAll s).mode = s.mode ∧ (presentAll s).portA = s.portA ∧ (presentAll s).portB = s.portB ∧
    (presentAll s).forward = s.forward ∧ (presentAll s).cadence = s.cadence ∧ (presentAll s).node = s.node ∧
    (presentAll s).requests = s.requests ∧ (presentAll s).notices = s.notices ∧ (presentAll s).captures = s.captures ∧
    (presentAll s).counters = s.counters ∧ (presentAll s).uptime = s.uptime ∧ (presentAll s).draws = s.draws := by
  unfold presentAll
  exact ⟨foldl_field State.pending _ (by simp) _ _, foldl_field State.inReset _ (by simp) _ _,
    foldl_field State.tables _ (by simp) _ _, foldl_field State.layout _ (by simp) _ _,
    foldl_field State.validation _ (by simp) _ _, foldl_field State.store _ (by simp) _ _,
    foldl_field State.hazard _ (by simp) _ _, foldl_field State.solver _ (by simp) _ _,
    foldl_field State.boundaries _ (by simp) _ _, foldl_field State.mode _ (by simp) _ _,
    foldl_field State.portA _ (by simp) _ _, foldl_field State.portB _ (by simp) _ _,
    foldl_field State.forward _ (by simp) _ _, foldl_field State.cadence _ (by simp) _ _,
    foldl_field State.node _ (by simp) _ _, foldl_field State.requests _ (by simp) _ _,
    foldl_field State.notices _ (by simp) _ _, foldl_field State.captures _ (by simp) _ _,
    foldl_field State.counters _ (by simp) _ _, foldl_field State.uptime _ (by simp) _ _,
    foldl_field State.draws _ (by simp) _ _⟩

/-- `placeDefault` leaves everything but signs as it was. -/
@[simp] theorem placeDefault_frame (s : State) :
    (placeDefault s).pending = s.pending ∧ (placeDefault s).inReset = s.inReset ∧ (placeDefault s).tables = s.tables ∧
    (placeDefault s).layout = s.layout ∧ (placeDefault s).validation = s.validation ∧ (placeDefault s).store = s.store ∧
    (placeDefault s).hazard = s.hazard ∧ (placeDefault s).solver = s.solver ∧ (placeDefault s).boundaries = s.boundaries ∧
    (placeDefault s).mode = s.mode ∧ (placeDefault s).portA = s.portA ∧ (placeDefault s).portB = s.portB ∧
    (placeDefault s).forward = s.forward ∧ (placeDefault s).cadence = s.cadence ∧ (placeDefault s).node = s.node ∧
    (placeDefault s).requests = s.requests ∧ (placeDefault s).notices = s.notices ∧ (placeDefault s).captures = s.captures ∧
    (placeDefault s).counters = s.counters ∧ (placeDefault s).uptime = s.uptime ∧ (placeDefault s).draws = s.draws := by
  unfold placeDefault
  try dsimp only
  repeat' split
  all_goals simp

/-- `forgetCommanded` leaves everything but signs as it was. -/
@[simp] theorem forgetCommanded_frame (s : State) (i : Nat) :
    (forgetCommanded s i).pending = s.pending ∧ (forgetCommanded s i).inReset = s.inReset ∧
    (forgetCommanded s i).tables = s.tables ∧ (forgetCommanded s i).layout = s.layout ∧
    (forgetCommanded s i).validation = s.validation ∧ (forgetCommanded s i).store = s.store ∧
    (forgetCommanded s i).hazard = s.hazard ∧ (forgetCommanded s i).solver = s.solver ∧
    (forgetCommanded s i).boundaries = s.boundaries ∧ (forgetCommanded s i).mode = s.mode ∧
    (forgetCommanded s i).portA = s.portA ∧ (forgetCommanded s i).portB = s.portB ∧ (forgetCommanded s i).forward = s.forward ∧
    (forgetCommanded s i).cadence = s.cadence ∧ (forgetCommanded s i).node = s.node ∧
    (forgetCommanded s i).requests = s.requests ∧ (forgetCommanded s i).notices = s.notices ∧
    (forgetCommanded s i).captures = s.captures ∧ (forgetCommanded s i).counters = s.counters ∧
    (forgetCommanded s i).uptime = s.uptime ∧ (forgetCommanded s i).draws = s.draws := by
  unfold forgetCommanded
  try dsimp only
  repeat' split
  all_goals simp

/-- `showDefaultTaken` leaves everything but signs as it was. -/
@[simp] theorem showDefaultTaken_frame (s : State) :
    (showDefaultTaken s).pending = s.pending ∧ (showDefaultTaken s).inReset = s.inReset ∧ (showDefaultTaken s).tables = s.tables ∧
    (showDefaultTaken s).layout = s.layout ∧ (showDefaultTaken s).validation = s.validation ∧
    (showDefaultTaken s).store = s.store ∧ (showDefaultTaken s).hazard = s.hazard ∧ (showDefaultTaken s).solver = s.solver ∧
    (showDefaultTaken s).boundaries = s.boundaries ∧ (showDefaultTaken s).mode = s.mode ∧ (showDefaultTaken s).portA = s.portA ∧
    (showDefaultTaken s).portB = s.portB ∧ (showDefaultTaken s).forward = s.forward ∧ (showDefaultTaken s).cadence = s.cadence ∧
    (showDefaultTaken s).node = s.node ∧ (showDefaultTaken s).requests = s.requests ∧ (showDefaultTaken s).notices = s.notices ∧
    (showDefaultTaken s).captures = s.captures ∧ (showDefaultTaken s).counters = s.counters ∧
    (showDefaultTaken s).uptime = s.uptime ∧ (showDefaultTaken s).draws = s.draws := by
  unfold showDefaultTaken
  dsimp only
  split <;>
  exact ⟨(foldl_field State.pending _ (by simp) _ _), (foldl_field State.inReset _ (by simp) _ _),
    (foldl_field State.tables _ (by simp) _ _), (foldl_field State.layout _ (by simp) _ _),
    (foldl_field State.validation _ (by simp) _ _), (foldl_field State.store _ (by simp) _ _),
    (foldl_field State.hazard _ (by simp) _ _), (foldl_field State.solver _ (by simp) _ _),
    (foldl_field State.boundaries _ (by simp) _ _), (foldl_field State.mode _ (by simp) _ _),
    (foldl_field State.portA _ (by simp) _ _), (foldl_field State.portB _ (by simp) _ _),
    (foldl_field State.forward _ (by simp) _ _), (foldl_field State.cadence _ (by simp) _ _),
    (foldl_field State.node _ (by simp) _ _), (foldl_field State.requests _ (by simp) _ _),
    (foldl_field State.notices _ (by simp) _ _), (foldl_field State.captures _ (by simp) _ _),
    (foldl_field State.counters _ (by simp) _ _), (foldl_field State.uptime _ (by simp) _ _),
    (foldl_field State.draws _ (by simp) _ _)⟩

/-- `faultCheck` leaves everything but signs, notices as it was. -/
@[simp] theorem faultCheck_frame (i : Nat) (s : State) :
    (faultCheck i s).pending = s.pending ∧ (faultCheck i s).inReset = s.inReset ∧ (faultCheck i s).tables = s.tables ∧
    (faultCheck i s).layout = s.layout ∧ (faultCheck i s).validation = s.validation ∧ (faultCheck i s).store = s.store ∧
    (faultCheck i s).hazard = s.hazard ∧ (faultCheck i s).solver = s.solver ∧ (faultCheck i s).boundaries = s.boundaries ∧
    (faultCheck i s).mode = s.mode ∧ (faultCheck i s).portA = s.portA ∧ (faultCheck i s).portB = s.portB ∧
    (faultCheck i s).forward = s.forward ∧ (faultCheck i s).cadence = s.cadence ∧ (faultCheck i s).node = s.node ∧
    (faultCheck i s).requests = s.requests ∧ (faultCheck i s).captures = s.captures ∧ (faultCheck i s).counters = s.counters ∧
    (faultCheck i s).uptime = s.uptime ∧ (faultCheck i s).draws = s.draws := by
  unfold faultCheck
  try dsimp only
  repeat' split
  all_goals simp

/-- `discardTake` leaves everything but node as it was. -/
@[simp] theorem discardTake_frame (s : State) :
    (discardTake s).pending = s.pending ∧ (discardTake s).inReset = s.inReset ∧ (discardTake s).tables = s.tables ∧
    (discardTake s).layout = s.layout ∧ (discardTake s).validation = s.validation ∧ (discardTake s).store = s.store ∧
    (discardTake s).hazard = s.hazard ∧ (discardTake s).solver = s.solver ∧ (discardTake s).signs = s.signs ∧
    (discardTake s).boundaries = s.boundaries ∧ (discardTake s).mode = s.mode ∧ (discardTake s).portA = s.portA ∧
    (discardTake s).portB = s.portB ∧ (discardTake s).forward = s.forward ∧ (discardTake s).cadence = s.cadence ∧
    (discardTake s).requests = s.requests ∧ (discardTake s).notices = s.notices ∧ (discardTake s).captures = s.captures ∧
    (discardTake s).counters = s.counters ∧ (discardTake s).uptime = s.uptime ∧ (discardTake s).draws = s.draws := by
  exact ⟨rfl, rfl, rfl, rfl, rfl, rfl, rfl, rfl, rfl, rfl, rfl, rfl, rfl, rfl, rfl, rfl, rfl, rfl, rfl, rfl, rfl⟩

/-- `compareStatus` leaves everything but signs, notices, counters as it was. -/
@[simp] theorem compareStatus_frame (i : Nat) (f m : Byte) (s : State) :
    (compareStatus i f m s).pending = s.pending ∧ (compareStatus i f m s).inReset = s.inReset ∧
    (compareStatus i f m s).tables = s.tables ∧ (compareStatus i f m s).layout = s.layout ∧
    (compareStatus i f m s).validation = s.validation ∧ (compareStatus i f m s).store = s.store ∧
    (compareStatus i f m s).hazard = s.hazard ∧ (compareStatus i f m s).solver = s.solver ∧
    (compareStatus i f m s).boundaries = s.boundaries ∧ (compareStatus i f m s).mode = s.mode ∧
    (compareStatus i f m s).portA = s.portA ∧ (compareStatus i f m s).portB = s.portB ∧
    (compareStatus i f m s).forward = s.forward ∧ (compareStatus i f m s).cadence = s.cadence ∧
    (compareStatus i f m s).node = s.node ∧ (compareStatus i f m s).requests = s.requests ∧
    (compareStatus i f m s).captures = s.captures ∧ (compareStatus i f m s).uptime = s.uptime ∧
    (compareStatus i f m s).draws = s.draws := by
  unfold compareStatus
  try dsimp only
  repeat' split
  all_goals simp

/-- `lampStatus` leaves everything but signs, notices as it was. -/
@[simp] theorem lampStatus_frame (i : Nat) (h : Byte) (s : State) :
    (lampStatus i h s).pending = s.pending ∧ (lampStatus i h s).inReset = s.inReset ∧ (lampStatus i h s).tables = s.tables ∧
    (lampStatus i h s).layout = s.layout ∧ (lampStatus i h s).validation = s.validation ∧ (lampStatus i h s).store = s.store ∧
    (lampStatus i h s).hazard = s.hazard ∧ (lampStatus i h s).solver = s.solver ∧ (lampStatus i h s).boundaries = s.boundaries ∧
    (lampStatus i h s).mode = s.mode ∧ (lampStatus i h s).portA = s.portA ∧ (lampStatus i h s).portB = s.portB ∧
    (lampStatus i h s).forward = s.forward ∧ (lampStatus i h s).cadence = s.cadence ∧ (lampStatus i h s).node = s.node ∧
    (lampStatus i h s).requests = s.requests ∧ (lampStatus i h s).captures = s.captures ∧
    (lampStatus i h s).counters = s.counters ∧ (lampStatus i h s).uptime = s.uptime ∧ (lampStatus i h s).draws = s.draws := by
  unfold lampStatus
  try dsimp only
  repeat' split
  all_goals simp

/-- `takeStatus` leaves everything but signs, node, notices, counters as it was. -/
@[simp] theorem takeStatus_frame (t : Telegram) (s : State) :
    (takeStatus t s).pending = s.pending ∧ (takeStatus t s).inReset = s.inReset ∧ (takeStatus t s).tables = s.tables ∧
    (takeStatus t s).layout = s.layout ∧ (takeStatus t s).validation = s.validation ∧ (takeStatus t s).store = s.store ∧
    (takeStatus t s).hazard = s.hazard ∧ (takeStatus t s).solver = s.solver ∧ (takeStatus t s).boundaries = s.boundaries ∧
    (takeStatus t s).mode = s.mode ∧ (takeStatus t s).portA = s.portA ∧ (takeStatus t s).portB = s.portB ∧
    (takeStatus t s).forward = s.forward ∧ (takeStatus t s).cadence = s.cadence ∧ (takeStatus t s).requests = s.requests ∧
    (takeStatus t s).captures = s.captures ∧ (takeStatus t s).uptime = s.uptime ∧ (takeStatus t s).draws = s.draws := by
  unfold takeStatus
  try dsimp only
  repeat' split
  all_goals simp

/-- `showTaken` leaves everything but signs, notices, counters as it was. -/
@[simp] theorem showTaken_frame (i : Nat) (s : State) :
    (showTaken i s).pending = s.pending ∧ (showTaken i s).inReset = s.inReset ∧ (showTaken i s).tables = s.tables ∧
    (showTaken i s).layout = s.layout ∧ (showTaken i s).validation = s.validation ∧ (showTaken i s).store = s.store ∧
    (showTaken i s).hazard = s.hazard ∧ (showTaken i s).solver = s.solver ∧ (showTaken i s).boundaries = s.boundaries ∧
    (showTaken i s).mode = s.mode ∧ (showTaken i s).portA = s.portA ∧ (showTaken i s).portB = s.portB ∧
    (showTaken i s).forward = s.forward ∧ (showTaken i s).cadence = s.cadence ∧ (showTaken i s).node = s.node ∧
    (showTaken i s).requests = s.requests ∧ (showTaken i s).captures = s.captures ∧ (showTaken i s).uptime = s.uptime ∧
    (showTaken i s).draws = s.draws := by
  simp [showTaken]

/-- `refreshTaken` leaves everything but signs, notices, counters as it was. -/
@[simp] theorem refreshTaken_frame (i : Nat) (s : State) :
    (refreshTaken i s).pending = s.pending ∧ (refreshTaken i s).inReset = s.inReset ∧ (refreshTaken i s).tables = s.tables ∧
    (refreshTaken i s).layout = s.layout ∧ (refreshTaken i s).validation = s.validation ∧ (refreshTaken i s).store = s.store ∧
    (refreshTaken i s).hazard = s.hazard ∧ (refreshTaken i s).solver = s.solver ∧ (refreshTaken i s).boundaries = s.boundaries ∧
    (refreshTaken i s).mode = s.mode ∧ (refreshTaken i s).portA = s.portA ∧ (refreshTaken i s).portB = s.portB ∧
    (refreshTaken i s).forward = s.forward ∧ (refreshTaken i s).cadence = s.cadence ∧ (refreshTaken i s).node = s.node ∧
    (refreshTaken i s).requests = s.requests ∧ (refreshTaken i s).captures = s.captures ∧ (refreshTaken i s).uptime = s.uptime ∧
    (refreshTaken i s).draws = s.draws := by
  simp [refreshTaken]

/-- `stopSignTimers` leaves everything but signs as it was. -/
@[simp] theorem stopSignTimers_frame (s : State) :
    (stopSignTimers s).pending = s.pending ∧ (stopSignTimers s).inReset = s.inReset ∧ (stopSignTimers s).tables = s.tables ∧
    (stopSignTimers s).layout = s.layout ∧ (stopSignTimers s).validation = s.validation ∧ (stopSignTimers s).store = s.store ∧
    (stopSignTimers s).hazard = s.hazard ∧ (stopSignTimers s).solver = s.solver ∧ (stopSignTimers s).boundaries = s.boundaries ∧
    (stopSignTimers s).mode = s.mode ∧ (stopSignTimers s).portA = s.portA ∧ (stopSignTimers s).portB = s.portB ∧
    (stopSignTimers s).forward = s.forward ∧ (stopSignTimers s).cadence = s.cadence ∧ (stopSignTimers s).node = s.node ∧
    (stopSignTimers s).requests = s.requests ∧ (stopSignTimers s).notices = s.notices ∧ (stopSignTimers s).captures = s.captures ∧
    (stopSignTimers s).counters = s.counters ∧ (stopSignTimers s).uptime = s.uptime ∧ (stopSignTimers s).draws = s.draws := by
  simp [stopSignTimers]

/-- `signsWithdraw` leaves everything but signs as it was. -/
@[simp] theorem signsWithdraw_frame (s : State) :
    (signsWithdraw s).pending = s.pending ∧ (signsWithdraw s).inReset = s.inReset ∧ (signsWithdraw s).tables = s.tables ∧
    (signsWithdraw s).layout = s.layout ∧ (signsWithdraw s).validation = s.validation ∧ (signsWithdraw s).store = s.store ∧
    (signsWithdraw s).hazard = s.hazard ∧ (signsWithdraw s).solver = s.solver ∧ (signsWithdraw s).boundaries = s.boundaries ∧
    (signsWithdraw s).mode = s.mode ∧ (signsWithdraw s).portA = s.portA ∧ (signsWithdraw s).portB = s.portB ∧
    (signsWithdraw s).forward = s.forward ∧ (signsWithdraw s).cadence = s.cadence ∧ (signsWithdraw s).node = s.node ∧
    (signsWithdraw s).requests = s.requests ∧ (signsWithdraw s).notices = s.notices ∧ (signsWithdraw s).captures = s.captures ∧
    (signsWithdraw s).counters = s.counters ∧ (signsWithdraw s).uptime = s.uptime ∧ (signsWithdraw s).draws = s.draws := by
  simp [signsWithdraw]

/-- `signsActivate` leaves everything but signs as it was. -/
@[simp] theorem signsActivate_frame (s : State) :
    (signsActivate s).pending = s.pending ∧ (signsActivate s).inReset = s.inReset ∧ (signsActivate s).tables = s.tables ∧
    (signsActivate s).layout = s.layout ∧ (signsActivate s).validation = s.validation ∧ (signsActivate s).store = s.store ∧
    (signsActivate s).hazard = s.hazard ∧ (signsActivate s).solver = s.solver ∧ (signsActivate s).boundaries = s.boundaries ∧
    (signsActivate s).mode = s.mode ∧ (signsActivate s).portA = s.portA ∧ (signsActivate s).portB = s.portB ∧
    (signsActivate s).forward = s.forward ∧ (signsActivate s).cadence = s.cadence ∧ (signsActivate s).node = s.node ∧
    (signsActivate s).requests = s.requests ∧ (signsActivate s).notices = s.notices ∧ (signsActivate s).captures = s.captures ∧
    (signsActivate s).counters = s.counters ∧ (signsActivate s).uptime = s.uptime ∧ (signsActivate s).draws = s.draws := by
  simp [signsActivate]

/-- `signsRestart` leaves everything but signs as it was. -/
@[simp] theorem signsRestart_frame (s : State) :
    (signsRestart s).pending = s.pending ∧ (signsRestart s).inReset = s.inReset ∧ (signsRestart s).tables = s.tables ∧
    (signsRestart s).layout = s.layout ∧ (signsRestart s).validation = s.validation ∧ (signsRestart s).store = s.store ∧
    (signsRestart s).hazard = s.hazard ∧ (signsRestart s).solver = s.solver ∧ (signsRestart s).boundaries = s.boundaries ∧
    (signsRestart s).mode = s.mode ∧ (signsRestart s).portA = s.portA ∧ (signsRestart s).portB = s.portB ∧
    (signsRestart s).forward = s.forward ∧ (signsRestart s).cadence = s.cadence ∧ (signsRestart s).node = s.node ∧
    (signsRestart s).requests = s.requests ∧ (signsRestart s).notices = s.notices ∧ (signsRestart s).captures = s.captures ∧
    (signsRestart s).counters = s.counters ∧ (signsRestart s).uptime = s.uptime ∧ (signsRestart s).draws = s.draws := by
  simp [signsRestart]

/-- An evaluation reads the tables and the sign scheduler alone. -/
theorem evaluate_congr {s u : State} (ht : s.tables = u.tables) (hg : s.signs = u.signs) (i : Nat) :
    (evaluate i s).signs = (evaluate i u).signs := by
  have hr : ∀ j, signRt s j = signRt u j := fun j => by simp [signRt, hg]
  have hc : evalCase s i = evalCase u i := by simp [evalCase, safetyForced, towardSmoke, hr, ht, hg]
  unfold evaluate
  rw [hc]
  cases evalCase u i <;> simp only [leaveQueue, joinOrdinary, joinForced, setHeld, setSignRt, hr, hg] <;> repeat' split
  all_goals simp_all

/-- The presentation rule for one sign reads the tables, the mode and the sign scheduler alone. -/
theorem represent_congr {s u : State} (ht : s.tables = u.tables) (hm : s.mode.mode = u.mode.mode) (hg : s.signs = u.signs) (i : Nat) :
    (represent s i).signs = (represent u i).signs := by
  have hp : presentation s i = presentation u i := by simp only [presentation, toneOf, chasePhase, exitEntry, ht, hm, hg]
  have hr : signRt s i = signRt u i := by simp [signRt, hg]
  exact evaluate_congr (by simpa using ht) (by simp [setSignRt, hp, hr, hg]) i

/-- What a commit and a mode change give the signs depends on the tables, the layout, the mode and the sign scheduler alone. -/
theorem presentAll_congr {s u : State} (ht : s.tables = u.tables) (hl : s.layout = u.layout) (hm : s.mode.mode = u.mode.mode)
    (hg : s.signs = u.signs) : (presentAll s).signs = (presentAll u).signs := by
  have hn : signsInUse s = signsInUse u := by simp [signsInUse, ht, hl]
  unfold presentAll
  rw [hn]
  generalize List.range (signsInUse u) = is
  clear hn
  induction is generalizing s u with
  | nil => exact hg
  | cons i is ih =>
    exact ih (by simpa using ht) (by simpa using hl) (by simpa using hm) (represent_congr ht hm hg i)

end Sys2Proof.Machine
end

