-- ==== Sys2Proof/Laws/Modes.lean ====
section
/-! SUPPORT. The capture unit and the mode controller: what their operations leave as it was. -/

namespace Sys2Proof.Machine

/-- `storeCapture` leaves everything but notices, captures as it was. -/
@[simp] theorem storeCapture_frame (c : Capture) (s : State) :
    (storeCapture c s).pending = s.pending ∧ (storeCapture c s).inReset = s.inReset ∧ (storeCapture c s).tables = s.tables ∧
    (storeCapture c s).layout = s.layout ∧ (storeCapture c s).validation = s.validation ∧ (storeCapture c s).store = s.store ∧
    (storeCapture c s).hazard = s.hazard ∧ (storeCapture c s).solver = s.solver ∧ (storeCapture c s).signs = s.signs ∧
    (storeCapture c s).boundaries = s.boundaries ∧ (storeCapture c s).mode = s.mode ∧ (storeCapture c s).portA = s.portA ∧
    (storeCapture c s).portB = s.portB ∧ (storeCapture c s).forward = s.forward ∧ (storeCapture c s).cadence = s.cadence ∧
    (storeCapture c s).node = s.node ∧ (storeCapture c s).requests = s.requests ∧ (storeCapture c s).counters = s.counters ∧
    (storeCapture c s).uptime = s.uptime ∧ (storeCapture c s).draws = s.draws := by
  unfold storeCapture
  try dsimp only
  repeat' split
  all_goals simp

/-- `capture` leaves everything but notices, captures as it was. -/
@[simp] theorem capture_frame (t : Trigger) (s : State) :
    (capture t s).pending = s.pending ∧ (capture t s).inReset = s.inReset ∧ (capture t s).tables = s.tables ∧
    (capture t s).layout = s.layout ∧ (capture t s).validation = s.validation ∧ (capture t s).store = s.store ∧
    (capture t s).hazard = s.hazard ∧ (capture t s).solver = s.solver ∧ (capture t s).signs = s.signs ∧
    (capture t s).boundaries = s.boundaries ∧ (capture t s).mode = s.mode ∧ (capture t s).portA = s.portA ∧
    (capture t s).portB = s.portB ∧ (capture t s).forward = s.forward ∧ (capture t s).cadence = s.cadence ∧
    (capture t s).node = s.node ∧ (capture t s).requests = s.requests ∧ (capture t s).counters = s.counters ∧
    (capture t s).uptime = s.uptime ∧ (capture t s).draws = s.draws := by
  simp [capture]

/-- `drawn` leaves everything but draws as it was. -/
@[simp] theorem drawn_frame (s : State) :
    (drawn s).pending = s.pending ∧ (drawn s).inReset = s.inReset ∧ (drawn s).tables = s.tables ∧ (drawn s).layout = s.layout ∧
    (drawn s).validation = s.validation ∧ (drawn s).store = s.store ∧ (drawn s).hazard = s.hazard ∧ (drawn s).solver = s.solver ∧
    (drawn s).signs = s.signs ∧ (drawn s).boundaries = s.boundaries ∧ (drawn s).mode = s.mode ∧ (drawn s).portA = s.portA ∧
    (drawn s).portB = s.portB ∧ (drawn s).forward = s.forward ∧ (drawn s).cadence = s.cadence ∧ (drawn s).node = s.node ∧
    (drawn s).requests = s.requests ∧ (drawn s).notices = s.notices ∧ (drawn s).captures = s.captures ∧
    (drawn s).counters = s.counters ∧ (drawn s).uptime = s.uptime := by
  exact ⟨rfl, rfl, rfl, rfl, rfl, rfl, rfl, rfl, rfl, rfl, rfl, rfl, rfl, rfl, rfl, rfl, rfl, rfl, rfl, rfl, rfl⟩

/-- `startCaptureTimer` leaves everything but captures as it was. -/
@[simp] theorem startCaptureTimer_frame (s : State) :
    (startCaptureTimer s).pending = s.pending ∧ (startCaptureTimer s).inReset = s.inReset ∧
    (startCaptureTimer s).tables = s.tables ∧ (startCaptureTimer s).layout = s.layout ∧
    (startCaptureTimer s).validation = s.validation ∧ (startCaptureTimer s).store = s.store ∧
    (startCaptureTimer s).hazard = s.hazard ∧ (startCaptureTimer s).solver = s.solver ∧ (startCaptureTimer s).signs = s.signs ∧
    (startCaptureTimer s).boundaries = s.boundaries ∧ (startCaptureTimer s).mode = s.mode ∧
    (startCaptureTimer s).portA = s.portA ∧ (startCaptureTimer s).portB = s.portB ∧ (startCaptureTimer s).forward = s.forward ∧
    (startCaptureTimer s).cadence = s.cadence ∧ (startCaptureTimer s).node = s.node ∧
    (startCaptureTimer s).requests = s.requests ∧ (startCaptureTimer s).notices = s.notices ∧
    (startCaptureTimer s).counters = s.counters ∧ (startCaptureTimer s).uptime = s.uptime ∧
    (startCaptureTimer s).draws = s.draws := by
  exact ⟨rfl, rfl, rfl, rfl, rfl, rfl, rfl, rfl, rfl, rfl, rfl, rfl, rfl, rfl, rfl, rfl, rfl, rfl, rfl, rfl, rfl⟩

/-- `setMode` leaves everything but mode, notices as it was. -/
@[simp] theorem setMode_frame (m : Mode) (s : State) :
    (setMode m s).pending = s.pending ∧ (setMode m s).inReset = s.inReset ∧ (setMode m s).tables = s.tables ∧
    (setMode m s).layout = s.layout ∧ (setMode m s).validation = s.validation ∧ (setMode m s).store = s.store ∧
    (setMode m s).hazard = s.hazard ∧ (setMode m s).solver = s.solver ∧ (setMode m s).signs = s.signs ∧
    (setMode m s).boundaries = s.boundaries ∧ (setMode m s).portA = s.portA ∧ (setMode m s).portB = s.portB ∧
    (setMode m s).forward = s.forward ∧ (setMode m s).cadence = s.cadence ∧ (setMode m s).node = s.node ∧
    (setMode m s).requests = s.requests ∧ (setMode m s).captures = s.captures ∧ (setMode m s).counters = s.counters ∧
    (setMode m s).uptime = s.uptime ∧ (setMode m s).draws = s.draws := by
  simp [setMode]

/-- `endFreeze` leaves everything but mode as it was. -/
@[simp] theorem endFreeze_frame (s : State) :
    (endFreeze s).pending = s.pending ∧ (endFreeze s).inReset = s.inReset ∧ (endFreeze s).tables = s.tables ∧
    (endFreeze s).layout = s.layout ∧ (endFreeze s).validation = s.validation ∧ (endFreeze s).store = s.store ∧
    (endFreeze s).hazard = s.hazard ∧ (endFreeze s).solver = s.solver ∧ (endFreeze s).signs = s.signs ∧
    (endFreeze s).boundaries = s.boundaries ∧ (endFreeze s).portA = s.portA ∧ (endFreeze s).portB = s.portB ∧
    (endFreeze s).forward = s.forward ∧ (endFreeze s).cadence = s.cadence ∧ (endFreeze s).node = s.node ∧
    (endFreeze s).requests = s.requests ∧ (endFreeze s).notices = s.notices ∧ (endFreeze s).captures = s.captures ∧
    (endFreeze s).counters = s.counters ∧ (endFreeze s).uptime = s.uptime ∧ (endFreeze s).draws = s.draws := by
  exact ⟨rfl, rfl, rfl, rfl, rfl, rfl, rfl, rfl, rfl, rfl, rfl, rfl, rfl, rfl, rfl, rfl, rfl, rfl, rfl, rfl, rfl⟩

/-- `evacLineCapture` leaves everything but notices, captures, draws as it was. -/
@[simp] theorem evacLineCapture_frame (b a s : State) :
    (evacLineCapture b a s).pending = s.pending ∧ (evacLineCapture b a s).inReset = s.inReset ∧
    (evacLineCapture b a s).tables = s.tables ∧ (evacLineCapture b a s).layout = s.layout ∧
    (evacLineCapture b a s).validation = s.validation ∧ (evacLineCapture b a s).store = s.store ∧
    (evacLineCapture b a s).hazard = s.hazard ∧ (evacLineCapture b a s).solver = s.solver ∧
    (evacLineCapture b a s).signs = s.signs ∧ (evacLineCapture b a s).boundaries = s.boundaries ∧
    (evacLineCapture b a s).mode = s.mode ∧ (evacLineCapture b a s).portA = s.portA ∧ (evacLineCapture b a s).portB = s.portB ∧
    (evacLineCapture b a s).forward = s.forward ∧ (evacLineCapture b a s).cadence = s.cadence ∧
    (evacLineCapture b a s).node = s.node ∧ (evacLineCapture b a s).requests = s.requests ∧
    (evacLineCapture b a s).counters = s.counters ∧ (evacLineCapture b a s).uptime = s.uptime := by
  simp [evacLineCapture]

/-- `changeMode` leaves everything but signs, mode, cadence, notices, captures, draws as it was. -/
@[simp] theorem changeMode_frame (m : Mode) (l : Bool) (s : State) :
    (changeMode m l s).pending = s.pending ∧ (changeMode m l s).inReset = s.inReset ∧ (changeMode m l s).tables = s.tables ∧
    (changeMode m l s).layout = s.layout ∧ (changeMode m l s).validation = s.validation ∧ (changeMode m l s).store = s.store ∧
    (changeMode m l s).hazard = s.hazard ∧ (changeMode m l s).solver = s.solver ∧ (changeMode m l s).boundaries = s.boundaries ∧
    (changeMode m l s).portA = s.portA ∧ (changeMode m l s).portB = s.portB ∧ (changeMode m l s).forward = s.forward ∧
    (changeMode m l s).node = s.node ∧ (changeMode m l s).requests = s.requests ∧ (changeMode m l s).counters = s.counters ∧
    (changeMode m l s).uptime = s.uptime := by
  unfold changeMode
  try dsimp only
  repeat' split
  all_goals simp

/-- `fireIdle` leaves everything but mode as it was. -/
@[simp] theorem fireIdle_frame (s : State) :
    (fireIdle s).pending = s.pending ∧ (fireIdle s).inReset = s.inReset ∧ (fireIdle s).tables = s.tables ∧
    (fireIdle s).layout = s.layout ∧ (fireIdle s).validation = s.validation ∧ (fireIdle s).store = s.store ∧
    (fireIdle s).hazard = s.hazard ∧ (fireIdle s).solver = s.solver ∧ (fireIdle s).signs = s.signs ∧
    (fireIdle s).boundaries = s.boundaries ∧ (fireIdle s).portA = s.portA ∧ (fireIdle s).portB = s.portB ∧
    (fireIdle s).forward = s.forward ∧ (fireIdle s).cadence = s.cadence ∧ (fireIdle s).node = s.node ∧
    (fireIdle s).requests = s.requests ∧ (fireIdle s).notices = s.notices ∧ (fireIdle s).captures = s.captures ∧
    (fireIdle s).counters = s.counters ∧ (fireIdle s).uptime = s.uptime ∧ (fireIdle s).draws = s.draws := by
  exact ⟨rfl, rfl, rfl, rfl, rfl, rfl, rfl, rfl, rfl, rfl, rfl, rfl, rfl, rfl, rfl, rfl, rfl, rfl, rfl, rfl, rfl⟩

/-- `fireActive` leaves everything but solver, signs, mode, cadence, notices, captures, counters, draws as it was. -/
@[simp] theorem fireActive_frame (s : State) :
    (fireActive s).pending = s.pending ∧ (fireActive s).inReset = s.inReset ∧ (fireActive s).tables = s.tables ∧
    (fireActive s).layout = s.layout ∧ (fireActive s).validation = s.validation ∧ (fireActive s).store = s.store ∧
    (fireActive s).hazard = s.hazard ∧ (fireActive s).boundaries = s.boundaries ∧ (fireActive s).portA = s.portA ∧
    (fireActive s).portB = s.portB ∧ (fireActive s).forward = s.forward ∧ (fireActive s).node = s.node ∧
    (fireActive s).requests = s.requests ∧ (fireActive s).uptime = s.uptime := by
  simp [fireActive]

/-- `fireNone` leaves everything but signs, mode, notices as it was. -/
@[simp] theorem fireNone_frame (s : State) :
    (fireNone s).pending = s.pending ∧ (fireNone s).inReset = s.inReset ∧ (fireNone s).tables = s.tables ∧
    (fireNone s).layout = s.layout ∧ (fireNone s).validation = s.validation ∧ (fireNone s).store = s.store ∧
    (fireNone s).hazard = s.hazard ∧ (fireNone s).solver = s.solver ∧ (fireNone s).boundaries = s.boundaries ∧
    (fireNone s).portA = s.portA ∧ (fireNone s).portB = s.portB ∧ (fireNone s).forward = s.forward ∧
    (fireNone s).cadence = s.cadence ∧ (fireNone s).node = s.node ∧ (fireNone s).requests = s.requests ∧
    (fireNone s).captures = s.captures ∧ (fireNone s).counters = s.counters ∧ (fireNone s).uptime = s.uptime ∧
    (fireNone s).draws = s.draws := by
  simp [fireNone]

/-- `startReload` leaves everything but layout, store as it was. -/
@[simp] theorem startReload_frame (s : State) :
    (startReload s).pending = s.pending ∧ (startReload s).inReset = s.inReset ∧ (startReload s).tables = s.tables ∧
    (startReload s).validation = s.validation ∧ (startReload s).hazard = s.hazard ∧ (startReload s).solver = s.solver ∧
    (startReload s).signs = s.signs ∧ (startReload s).boundaries = s.boundaries ∧ (startReload s).mode = s.mode ∧
    (startReload s).portA = s.portA ∧ (startReload s).portB = s.portB ∧ (startReload s).forward = s.forward ∧
    (startReload s).cadence = s.cadence ∧ (startReload s).node = s.node ∧ (startReload s).requests = s.requests ∧
    (startReload s).notices = s.notices ∧ (startReload s).captures = s.captures ∧ (startReload s).counters = s.counters ∧
    (startReload s).uptime = s.uptime ∧ (startReload s).draws = s.draws := by
  exact ⟨rfl, rfl, rfl, rfl, rfl, rfl, rfl, rfl, rfl, rfl, rfl, rfl, rfl, rfl, rfl, rfl, rfl, rfl, rfl, rfl⟩

/-- `fireWait` leaves everything but mode as it was. -/
@[simp] theorem fireWait_frame (s : State) :
    (fireWait s).pending = s.pending ∧ (fireWait s).inReset = s.inReset ∧ (fireWait s).tables = s.tables ∧
    (fireWait s).layout = s.layout ∧ (fireWait s).validation = s.validation ∧ (fireWait s).store = s.store ∧
    (fireWait s).hazard = s.hazard ∧ (fireWait s).solver = s.solver ∧ (fireWait s).signs = s.signs ∧
    (fireWait s).boundaries = s.boundaries ∧ (fireWait s).portA = s.portA ∧ (fireWait s).portB = s.portB ∧
    (fireWait s).forward = s.forward ∧ (fireWait s).cadence = s.cadence ∧ (fireWait s).node = s.node ∧
    (fireWait s).requests = s.requests ∧ (fireWait s).notices = s.notices ∧ (fireWait s).captures = s.captures ∧
    (fireWait s).counters = s.counters ∧ (fireWait s).uptime = s.uptime ∧ (fireWait s).draws = s.draws := by
  exact ⟨rfl, rfl, rfl, rfl, rfl, rfl, rfl, rfl, rfl, rfl, rfl, rfl, rfl, rfl, rfl, rfl, rfl, rfl, rfl, rfl, rfl⟩

/-- `fireEditing` leaves everything but layout, store, signs, mode as it was. -/
@[simp] theorem fireEditing_frame (s : State) :
    (fireEditing s).pending = s.pending ∧ (fireEditing s).inReset = s.inReset ∧ (fireEditing s).tables = s.tables ∧
    (fireEditing s).validation = s.validation ∧ (fireEditing s).hazard = s.hazard ∧ (fireEditing s).solver = s.solver ∧
    (fireEditing s).boundaries = s.boundaries ∧ (fireEditing s).portA = s.portA ∧ (fireEditing s).portB = s.portB ∧
    (fireEditing s).forward = s.forward ∧ (fireEditing s).cadence = s.cadence ∧ (fireEditing s).node = s.node ∧
    (fireEditing s).requests = s.requests ∧ (fireEditing s).notices = s.notices ∧ (fireEditing s).captures = s.captures ∧
    (fireEditing s).counters = s.counters ∧ (fireEditing s).uptime = s.uptime ∧ (fireEditing s).draws = s.draws := by
  simp [fireEditing]

/-- `fireByLayout` leaves everything but layout, store, solver, signs, mode, cadence, notices, captures, counters, draws as it was. -/
@[simp] theorem fireByLayout_frame (s : State) :
    (fireByLayout s).pending = s.pending ∧ (fireByLayout s).inReset = s.inReset ∧ (fireByLayout s).tables = s.tables ∧
    (fireByLayout s).validation = s.validation ∧ (fireByLayout s).hazard = s.hazard ∧ (fireByLayout s).boundaries = s.boundaries ∧
    (fireByLayout s).portA = s.portA ∧ (fireByLayout s).portB = s.portB ∧ (fireByLayout s).forward = s.forward ∧
    (fireByLayout s).node = s.node ∧ (fireByLayout s).requests = s.requests ∧ (fireByLayout s).uptime = s.uptime := by
  unfold fireByLayout
  try dsimp only
  repeat' split
  all_goals simp

/-- `fireCause` leaves everything but layout, store, solver, signs, mode, cadence, notices, captures, counters, draws as it was. -/
@[simp] theorem fireCause_frame (e l : Bool) (s : State) :
    (fireCause e l s).pending = s.pending ∧ (fireCause e l s).inReset = s.inReset ∧ (fireCause e l s).tables = s.tables ∧
    (fireCause e l s).validation = s.validation ∧ (fireCause e l s).hazard = s.hazard ∧
    (fireCause e l s).boundaries = s.boundaries ∧ (fireCause e l s).portA = s.portA ∧ (fireCause e l s).portB = s.portB ∧
    (fireCause e l s).forward = s.forward ∧ (fireCause e l s).node = s.node ∧ (fireCause e l s).requests = s.requests ∧
    (fireCause e l s).uptime = s.uptime := by
  unfold fireCause
  try dsimp only
  repeat' split
  all_goals simp

/-- `fireWaitEnd` leaves everything but layout, store, solver, signs, mode, cadence, notices, captures, counters, draws as it was. -/
@[simp] theorem fireWaitEnd_frame (s : State) :
    (fireWaitEnd s).pending = s.pending ∧ (fireWaitEnd s).inReset = s.inReset ∧ (fireWaitEnd s).tables = s.tables ∧
    (fireWaitEnd s).validation = s.validation ∧ (fireWaitEnd s).hazard = s.hazard ∧ (fireWaitEnd s).boundaries = s.boundaries ∧
    (fireWaitEnd s).portA = s.portA ∧ (fireWaitEnd s).portB = s.portB ∧ (fireWaitEnd s).forward = s.forward ∧
    (fireWaitEnd s).node = s.node ∧ (fireWaitEnd s).requests = s.requests ∧ (fireWaitEnd s).uptime = s.uptime := by
  unfold fireWaitEnd
  try dsimp only
  repeat' split
  all_goals simp

/-- `evacCause` leaves everything but layout, store, solver, signs, mode, cadence, notices, captures, counters, draws as it was. -/
@[simp] theorem evacCause_frame (l : Bool) (s : State) :
    (evacCause l s).pending = s.pending ∧ (evacCause l s).inReset = s.inReset ∧ (evacCause l s).tables = s.tables ∧
    (evacCause l s).validation = s.validation ∧ (evacCause l s).hazard = s.hazard ∧ (evacCause l s).boundaries = s.boundaries ∧
    (evacCause l s).portA = s.portA ∧ (evacCause l s).portB = s.portB ∧ (evacCause l s).forward = s.forward ∧
    (evacCause l s).node = s.node ∧ (evacCause l s).requests = s.requests ∧ (evacCause l s).uptime = s.uptime := by
  unfold evacCause
  try dsimp only
  repeat' split
  all_goals simp

/-- `escalationAtMode` leaves everything but layout, store, solver, signs, mode, cadence, notices, captures, counters, draws as it was. -/
@[simp] theorem escalationAtMode_frame (z : ZoneState) (s : State) :
    (escalationAtMode z s).pending = s.pending ∧ (escalationAtMode z s).inReset = s.inReset ∧
    (escalationAtMode z s).tables = s.tables ∧ (escalationAtMode z s).validation = s.validation ∧
    (escalationAtMode z s).hazard = s.hazard ∧ (escalationAtMode z s).boundaries = s.boundaries ∧
    (escalationAtMode z s).portA = s.portA ∧ (escalationAtMode z s).portB = s.portB ∧ (escalationAtMode z s).forward = s.forward ∧
    (escalationAtMode z s).node = s.node ∧ (escalationAtMode z s).requests = s.requests ∧
    (escalationAtMode z s).uptime = s.uptime := by
  unfold escalationAtMode
  try dsimp only
  repeat' split
  all_goals simp

/-- `changeAtMode` leaves everything but signs, mode, cadence, notices, captures, draws as it was. -/
@[simp] theorem changeAtMode_frame (i : Nat) (z : ZoneState) (s : State) :
    (changeAtMode i z s).pending = s.pending ∧ (changeAtMode i z s).inReset = s.inReset ∧ (changeAtMode i z s).tables = s.tables ∧
    (changeAtMode i z s).layout = s.layout ∧ (changeAtMode i z s).validation = s.validation ∧
    (changeAtMode i z s).store = s.store ∧ (changeAtMode i z s).hazard = s.hazard ∧ (changeAtMode i z s).solver = s.solver ∧
    (changeAtMode i z s).boundaries = s.boundaries ∧ (changeAtMode i z s).portA = s.portA ∧ (changeAtMode i z s).portB = s.portB ∧
    (changeAtMode i z s).forward = s.forward ∧ (changeAtMode i z s).node = s.node ∧ (changeAtMode i z s).requests = s.requests ∧
    (changeAtMode i z s).counters = s.counters ∧ (changeAtMode i z s).uptime = s.uptime := by
  unfold changeAtMode
  try dsimp only
  repeat' split
  all_goals simp

/-- `setPanelLine` leaves everything but mode as it was. -/
@[simp] theorem setPanelLine_frame (n : PanelLineName) (p : PanelLine) (s : State) :
    (setPanelLine n p s).pending = s.pending ∧ (setPanelLine n p s).inReset = s.inReset ∧ (setPanelLine n p s).tables = s.tables ∧
    (setPanelLine n p s).layout = s.layout ∧ (setPanelLine n p s).validation = s.validation ∧
    (setPanelLine n p s).store = s.store ∧ (setPanelLine n p s).hazard = s.hazard ∧ (setPanelLine n p s).solver = s.solver ∧
    (setPanelLine n p s).signs = s.signs ∧ (setPanelLine n p s).boundaries = s.boundaries ∧ (setPanelLine n p s).portA = s.portA ∧
    (setPanelLine n p s).portB = s.portB ∧ (setPanelLine n p s).forward = s.forward ∧ (setPanelLine n p s).cadence = s.cadence ∧
    (setPanelLine n p s).node = s.node ∧ (setPanelLine n p s).requests = s.requests ∧ (setPanelLine n p s).notices = s.notices ∧
    (setPanelLine n p s).captures = s.captures ∧ (setPanelLine n p s).counters = s.counters ∧
    (setPanelLine n p s).uptime = s.uptime ∧ (setPanelLine n p s).draws = s.draws := by
  unfold setPanelLine
  try dsimp only
  repeat' split
  all_goals simp

/-- `edgeTaken` leaves everything but layout, store, solver, signs, mode, cadence, notices, captures, counters, draws as it was. -/
@[simp] theorem edgeTaken_frame (n : PanelLineName) (l : Level) (s : State) :
    (edgeTaken n l s).pending = s.pending ∧ (edgeTaken n l s).inReset = s.inReset ∧ (edgeTaken n l s).tables = s.tables ∧
    (edgeTaken n l s).validation = s.validation ∧ (edgeTaken n l s).hazard = s.hazard ∧
    (edgeTaken n l s).boundaries = s.boundaries ∧ (edgeTaken n l s).portA = s.portA ∧ (edgeTaken n l s).portB = s.portB ∧
    (edgeTaken n l s).forward = s.forward ∧ (edgeTaken n l s).node = s.node ∧ (edgeTaken n l s).requests = s.requests ∧
    (edgeTaken n l s).uptime = s.uptime := by
  unfold edgeTaken
  try dsimp only
  repeat' split
  all_goals simp

/-- `lookAt` leaves everything but layout, store, solver, signs, mode, cadence, notices, captures, counters, draws as it was. -/
@[simp] theorem lookAt_frame (n : PanelLineName) (s : State) :
    (lookAt n s).pending = s.pending ∧ (lookAt n s).inReset = s.inReset ∧ (lookAt n s).tables = s.tables ∧
    (lookAt n s).validation = s.validation ∧ (lookAt n s).hazard = s.hazard ∧ (lookAt n s).boundaries = s.boundaries ∧
    (lookAt n s).portA = s.portA ∧ (lookAt n s).portB = s.portB ∧ (lookAt n s).forward = s.forward ∧ (lookAt n s).node = s.node ∧
    (lookAt n s).requests = s.requests ∧ (lookAt n s).uptime = s.uptime := by
  unfold lookAt
  try dsimp only
  repeat' split
  all_goals simp

/-- `edge` leaves everything but layout, store, solver, signs, mode, cadence, notices, captures, counters, draws as it was. -/
@[simp] theorem edge_frame (n : PanelLineName) (l : Level) (s : State) :
    (edge n l s).pending = s.pending ∧ (edge n l s).inReset = s.inReset ∧ (edge n l s).tables = s.tables ∧
    (edge n l s).validation = s.validation ∧ (edge n l s).hazard = s.hazard ∧ (edge n l s).boundaries = s.boundaries ∧
    (edge n l s).portA = s.portA ∧ (edge n l s).portB = s.portB ∧ (edge n l s).forward = s.forward ∧ (edge n l s).node = s.node ∧
    (edge n l s).requests = s.requests ∧ (edge n l s).uptime = s.uptime := by
  unfold edge
  try dsimp only
  repeat' split
  all_goals simp

end Sys2Proof.Machine
end

