-- ==== Sys2Proof/Laws/Hazard.lean ====
section
/-! SUPPORT. The hazard map: what its operations leave as it was. -/

namespace Sys2Proof.Machine

/-- `refreshUsability` leaves everything but hazard, notices as it was. -/
@[simp] theorem refreshUsability_frame (s : State) (e : Nat) :
    (refreshUsability s e).pending = s.pending ∧ (refreshUsability s e).inReset = s.inReset ∧
    (refreshUsability s e).tables = s.tables ∧ (refreshUsability s e).layout = s.layout ∧
    (refreshUsability s e).validation = s.validation ∧ (refreshUsability s e).store = s.store ∧
    (refreshUsability s e).solver = s.solver ∧ (refreshUsability s e).signs = s.signs ∧
    (refreshUsability s e).boundaries = s.boundaries ∧ (refreshUsability s e).mode = s.mode ∧
    (refreshUsability s e).portA = s.portA ∧ (refreshUsability s e).portB = s.portB ∧ (refreshUsability s e).forward = s.forward ∧
    (refreshUsability s e).cadence = s.cadence ∧ (refreshUsability s e).node = s.node ∧
    (refreshUsability s e).requests = s.requests ∧ (refreshUsability s e).captures = s.captures ∧
    (refreshUsability s e).counters = s.counters ∧ (refreshUsability s e).uptime = s.uptime ∧
    (refreshUsability s e).draws = s.draws := by
  unfold refreshUsability
  try dsimp only
  repeat' split
  all_goals simp

/-- `refreshUsabilities` leaves everything but hazard, notices as it was. -/
@[simp] theorem refreshUsabilities_frame (z : Nat) (s : State) :
    (refreshUsabilities z s).pending = s.pending ∧ (refreshUsabilities z s).inReset = s.inReset ∧
    (refreshUsabilities z s).tables = s.tables ∧ (refreshUsabilities z s).layout = s.layout ∧
    (refreshUsabilities z s).validation = s.validation ∧ (refreshUsabilities z s).store = s.store ∧
    (refreshUsabilities z s).solver = s.solver ∧ (refreshUsabilities z s).signs = s.signs ∧
    (refreshUsabilities z s).boundaries = s.boundaries ∧ (refreshUsabilities z s).mode = s.mode ∧
    (refreshUsabilities z s).portA = s.portA ∧ (refreshUsabilities z s).portB = s.portB ∧
    (refreshUsabilities z s).forward = s.forward ∧ (refreshUsabilities z s).cadence = s.cadence ∧
    (refreshUsabilities z s).node = s.node ∧ (refreshUsabilities z s).requests = s.requests ∧
    (refreshUsabilities z s).captures = s.captures ∧ (refreshUsabilities z s).counters = s.counters ∧
    (refreshUsabilities z s).uptime = s.uptime ∧ (refreshUsabilities z s).draws = s.draws := by
  unfold refreshUsabilities
  exact ⟨foldl_field State.pending _ (by simp) _ _, foldl_field State.inReset _ (by simp) _ _,
    foldl_field State.tables _ (by simp) _ _, foldl_field State.layout _ (by simp) _ _,
    foldl_field State.validation _ (by simp) _ _, foldl_field State.store _ (by simp) _ _,
    foldl_field State.solver _ (by simp) _ _, foldl_field State.signs _ (by simp) _ _,
    foldl_field State.boundaries _ (by simp) _ _, foldl_field State.mode _ (by simp) _ _,
    foldl_field State.portA _ (by simp) _ _, foldl_field State.portB _ (by simp) _ _,
    foldl_field State.forward _ (by simp) _ _, foldl_field State.cadence _ (by simp) _ _,
    foldl_field State.node _ (by simp) _ _, foldl_field State.requests _ (by simp) _ _,
    foldl_field State.captures _ (by simp) _ _, foldl_field State.counters _ (by simp) _ _,
    foldl_field State.uptime _ (by simp) _ _, foldl_field State.draws _ (by simp) _ _⟩

/-- `incidentCapture` leaves everything but notices, captures, draws as it was. -/
@[simp] theorem incidentCapture_frame (z : Nat) (b a s : State) :
    (incidentCapture z b a s).pending = s.pending ∧ (incidentCapture z b a s).inReset = s.inReset ∧
    (incidentCapture z b a s).tables = s.tables ∧ (incidentCapture z b a s).layout = s.layout ∧
    (incidentCapture z b a s).validation = s.validation ∧ (incidentCapture z b a s).store = s.store ∧
    (incidentCapture z b a s).hazard = s.hazard ∧ (incidentCapture z b a s).solver = s.solver ∧
    (incidentCapture z b a s).signs = s.signs ∧ (incidentCapture z b a s).boundaries = s.boundaries ∧
    (incidentCapture z b a s).mode = s.mode ∧ (incidentCapture z b a s).portA = s.portA ∧
    (incidentCapture z b a s).portB = s.portB ∧ (incidentCapture z b a s).forward = s.forward ∧
    (incidentCapture z b a s).cadence = s.cadence ∧ (incidentCapture z b a s).node = s.node ∧
    (incidentCapture z b a s).requests = s.requests ∧ (incidentCapture z b a s).counters = s.counters ∧
    (incidentCapture z b a s).uptime = s.uptime := by
  unfold incidentCapture
  try dsimp only
  repeat' split
  all_goals simp

/-- `escalate` leaves everything but layout, store, solver, signs, mode, cadence, notices, captures, counters, draws as it was. -/
@[simp] theorem escalate_frame (z : Nat) (x : ZoneState) (s : State) :
    (escalate z x s).pending = s.pending ∧ (escalate z x s).inReset = s.inReset ∧ (escalate z x s).tables = s.tables ∧
    (escalate z x s).validation = s.validation ∧ (escalate z x s).hazard = s.hazard ∧ (escalate z x s).boundaries = s.boundaries ∧
    (escalate z x s).portA = s.portA ∧ (escalate z x s).portB = s.portB ∧ (escalate z x s).forward = s.forward ∧
    (escalate z x s).node = s.node ∧ (escalate z x s).requests = s.requests ∧ (escalate z x s).uptime = s.uptime := by
  simp [escalate]

/-- `zoneChanged` leaves everything but solver, signs, mode, cadence, notices, captures, counters, draws as it was. -/
@[simp] theorem zoneChanged_frame (z : Nat) (x : ZoneState) (s : State) :
    (zoneChanged z x s).pending = s.pending ∧ (zoneChanged z x s).inReset = s.inReset ∧ (zoneChanged z x s).tables = s.tables ∧
    (zoneChanged z x s).layout = s.layout ∧ (zoneChanged z x s).validation = s.validation ∧ (zoneChanged z x s).store = s.store ∧
    (zoneChanged z x s).hazard = s.hazard ∧ (zoneChanged z x s).boundaries = s.boundaries ∧ (zoneChanged z x s).portA = s.portA ∧
    (zoneChanged z x s).portB = s.portB ∧ (zoneChanged z x s).forward = s.forward ∧ (zoneChanged z x s).node = s.node ∧
    (zoneChanged z x s).requests = s.requests ∧ (zoneChanged z x s).uptime = s.uptime := by
  simp [zoneChanged]

/-- `zoneEvents` leaves everything but layout, store, solver, signs, mode, cadence, notices, captures, counters, draws as it was. -/
@[simp] theorem zoneEvents_frame (z : Nat) (a b : ZoneState) (s : State) :
    (zoneEvents z a b s).pending = s.pending ∧ (zoneEvents z a b s).inReset = s.inReset ∧ (zoneEvents z a b s).tables = s.tables ∧
    (zoneEvents z a b s).validation = s.validation ∧ (zoneEvents z a b s).hazard = s.hazard ∧
    (zoneEvents z a b s).boundaries = s.boundaries ∧ (zoneEvents z a b s).portA = s.portA ∧ (zoneEvents z a b s).portB = s.portB ∧
    (zoneEvents z a b s).forward = s.forward ∧ (zoneEvents z a b s).node = s.node ∧ (zoneEvents z a b s).requests = s.requests ∧
    (zoneEvents z a b s).uptime = s.uptime := by
  unfold zoneEvents
  try dsimp only
  repeat' split
  all_goals simp

/-- `recompute` leaves everything but layout, store, hazard, solver, signs, mode, cadence, notices, captures, counters, draws as it was. -/
@[simp] theorem recompute_frame (z : Nat) (s : State) :
    (recompute z s).pending = s.pending ∧ (recompute z s).inReset = s.inReset ∧ (recompute z s).tables = s.tables ∧
    (recompute z s).validation = s.validation ∧ (recompute z s).boundaries = s.boundaries ∧ (recompute z s).portA = s.portA ∧
    (recompute z s).portB = s.portB ∧ (recompute z s).forward = s.forward ∧ (recompute z s).node = s.node ∧
    (recompute z s).requests = s.requests ∧ (recompute z s).uptime = s.uptime := by
  simp [recompute]

/-- `recomputeAll` leaves everything but layout, store, hazard, solver, signs, mode, cadence, notices, captures, counters, draws as it was. -/
@[simp] theorem recomputeAll_frame (zs : List Nat) (s : State) :
    (recomputeAll zs s).pending = s.pending ∧ (recomputeAll zs s).inReset = s.inReset ∧ (recomputeAll zs s).tables = s.tables ∧
    (recomputeAll zs s).validation = s.validation ∧ (recomputeAll zs s).boundaries = s.boundaries ∧
    (recomputeAll zs s).portA = s.portA ∧ (recomputeAll zs s).portB = s.portB ∧ (recomputeAll zs s).forward = s.forward ∧
    (recomputeAll zs s).node = s.node ∧ (recomputeAll zs s).requests = s.requests ∧ (recomputeAll zs s).uptime = s.uptime := by
  unfold recomputeAll
  exact ⟨foldl_field State.pending _ (by simp) _ _, foldl_field State.inReset _ (by simp) _ _,
    foldl_field State.tables _ (by simp) _ _, foldl_field State.validation _ (by simp) _ _,
    foldl_field State.boundaries _ (by simp) _ _, foldl_field State.portA _ (by simp) _ _,
    foldl_field State.portB _ (by simp) _ _, foldl_field State.forward _ (by simp) _ _,
    foldl_field State.node _ (by simp) _ _, foldl_field State.requests _ (by simp) _ _,
    foldl_field State.uptime _ (by simp) _ _⟩

/-- `setStale` leaves everything but hazard as it was. -/
@[simp] theorem setStale_frame (z : Nat) (b : Bool) (s : State) :
    (setStale z b s).pending = s.pending ∧ (setStale z b s).inReset = s.inReset ∧ (setStale z b s).tables = s.tables ∧
    (setStale z b s).layout = s.layout ∧ (setStale z b s).validation = s.validation ∧ (setStale z b s).store = s.store ∧
    (setStale z b s).solver = s.solver ∧ (setStale z b s).signs = s.signs ∧ (setStale z b s).boundaries = s.boundaries ∧
    (setStale z b s).mode = s.mode ∧ (setStale z b s).portA = s.portA ∧ (setStale z b s).portB = s.portB ∧
    (setStale z b s).forward = s.forward ∧ (setStale z b s).cadence = s.cadence ∧ (setStale z b s).node = s.node ∧
    (setStale z b s).requests = s.requests ∧ (setStale z b s).notices = s.notices ∧ (setStale z b s).captures = s.captures ∧
    (setStale z b s).counters = s.counters ∧ (setStale z b s).uptime = s.uptime ∧ (setStale z b s).draws = s.draws := by
  simp [setStale]

/-- `acceptReport` leaves everything but layout, store, hazard, solver, signs, mode, cadence, notices, captures, counters, draws as it was. -/
@[simp] theorem acceptReport_frame (i : Nat) (c : Condition) (s : State) :
    (acceptReport i c s).pending = s.pending ∧ (acceptReport i c s).inReset = s.inReset ∧ (acceptReport i c s).tables = s.tables ∧
    (acceptReport i c s).validation = s.validation ∧ (acceptReport i c s).boundaries = s.boundaries ∧
    (acceptReport i c s).portA = s.portA ∧ (acceptReport i c s).portB = s.portB ∧ (acceptReport i c s).forward = s.forward ∧
    (acceptReport i c s).node = s.node ∧ (acceptReport i c s).requests = s.requests ∧ (acceptReport i c s).uptime = s.uptime := by
  unfold acceptReport
  try dsimp only
  repeat' split
  all_goals simp

/-- `ignoreReport` leaves everything but hazard as it was. -/
@[simp] theorem ignoreReport_frame (i : Nat) (s : State) :
    (ignoreReport i s).pending = s.pending ∧ (ignoreReport i s).inReset = s.inReset ∧ (ignoreReport i s).tables = s.tables ∧
    (ignoreReport i s).layout = s.layout ∧ (ignoreReport i s).validation = s.validation ∧ (ignoreReport i s).store = s.store ∧
    (ignoreReport i s).solver = s.solver ∧ (ignoreReport i s).signs = s.signs ∧ (ignoreReport i s).boundaries = s.boundaries ∧
    (ignoreReport i s).mode = s.mode ∧ (ignoreReport i s).portA = s.portA ∧ (ignoreReport i s).portB = s.portB ∧
    (ignoreReport i s).forward = s.forward ∧ (ignoreReport i s).cadence = s.cadence ∧ (ignoreReport i s).node = s.node ∧
    (ignoreReport i s).requests = s.requests ∧ (ignoreReport i s).notices = s.notices ∧ (ignoreReport i s).captures = s.captures ∧
    (ignoreReport i s).counters = s.counters ∧ (ignoreReport i s).uptime = s.uptime ∧ (ignoreReport i s).draws = s.draws := by
  simp [ignoreReport]

/-- `takeReport` leaves everything but layout, store, hazard, solver, signs, mode, cadence, notices, captures, counters, draws as it was. -/
@[simp] theorem takeReport_frame (t : Telegram) (s : State) :
    (takeReport t s).pending = s.pending ∧ (takeReport t s).inReset = s.inReset ∧ (takeReport t s).tables = s.tables ∧
    (takeReport t s).validation = s.validation ∧ (takeReport t s).boundaries = s.boundaries ∧ (takeReport t s).portA = s.portA ∧
    (takeReport t s).portB = s.portB ∧ (takeReport t s).forward = s.forward ∧ (takeReport t s).node = s.node ∧
    (takeReport t s).requests = s.requests ∧ (takeReport t s).uptime = s.uptime := by
  unfold takeReport
  try dsimp only
  repeat' split
  all_goals simp

/-- `stopSilence` leaves everything but hazard as it was. -/
@[simp] theorem stopSilence_frame (s : State) :
    (stopSilence s).pending = s.pending ∧ (stopSilence s).inReset = s.inReset ∧ (stopSilence s).tables = s.tables ∧
    (stopSilence s).layout = s.layout ∧ (stopSilence s).validation = s.validation ∧ (stopSilence s).store = s.store ∧
    (stopSilence s).solver = s.solver ∧ (stopSilence s).signs = s.signs ∧ (stopSilence s).boundaries = s.boundaries ∧
    (stopSilence s).mode = s.mode ∧ (stopSilence s).portA = s.portA ∧ (stopSilence s).portB = s.portB ∧
    (stopSilence s).forward = s.forward ∧ (stopSilence s).cadence = s.cadence ∧ (stopSilence s).node = s.node ∧
    (stopSilence s).requests = s.requests ∧ (stopSilence s).notices = s.notices ∧ (stopSilence s).captures = s.captures ∧
    (stopSilence s).counters = s.counters ∧ (stopSilence s).uptime = s.uptime ∧ (stopSilence s).draws = s.draws := by
  simp [stopSilence]

/-- `restartSilence` leaves everything but hazard as it was. -/
@[simp] theorem restartSilence_frame (s : State) :
    (restartSilence s).pending = s.pending ∧ (restartSilence s).inReset = s.inReset ∧ (restartSilence s).tables = s.tables ∧
    (restartSilence s).layout = s.layout ∧ (restartSilence s).validation = s.validation ∧ (restartSilence s).store = s.store ∧
    (restartSilence s).solver = s.solver ∧ (restartSilence s).signs = s.signs ∧ (restartSilence s).boundaries = s.boundaries ∧
    (restartSilence s).mode = s.mode ∧ (restartSilence s).portA = s.portA ∧ (restartSilence s).portB = s.portB ∧
    (restartSilence s).forward = s.forward ∧ (restartSilence s).cadence = s.cadence ∧ (restartSilence s).node = s.node ∧
    (restartSilence s).requests = s.requests ∧ (restartSilence s).notices = s.notices ∧ (restartSilence s).captures = s.captures ∧
    (restartSilence s).counters = s.counters ∧ (restartSilence s).uptime = s.uptime ∧ (restartSilence s).draws = s.draws := by
  simp [restartSilence]

/-- `staleUnlatched` leaves everything but hazard as it was. -/
@[simp] theorem staleUnlatched_frame (s : State) :
    (staleUnlatched s).pending = s.pending ∧ (staleUnlatched s).inReset = s.inReset ∧ (staleUnlatched s).tables = s.tables ∧
    (staleUnlatched s).layout = s.layout ∧ (staleUnlatched s).validation = s.validation ∧ (staleUnlatched s).store = s.store ∧
    (staleUnlatched s).solver = s.solver ∧ (staleUnlatched s).signs = s.signs ∧ (staleUnlatched s).boundaries = s.boundaries ∧
    (staleUnlatched s).mode = s.mode ∧ (staleUnlatched s).portA = s.portA ∧ (staleUnlatched s).portB = s.portB ∧
    (staleUnlatched s).forward = s.forward ∧ (staleUnlatched s).cadence = s.cadence ∧ (staleUnlatched s).node = s.node ∧
    (staleUnlatched s).requests = s.requests ∧ (staleUnlatched s).notices = s.notices ∧ (staleUnlatched s).captures = s.captures ∧
    (staleUnlatched s).counters = s.counters ∧ (staleUnlatched s).uptime = s.uptime ∧ (staleUnlatched s).draws = s.draws := by
  simp [staleUnlatched]

/-- `loopLoss` leaves everything but layout, store, hazard, solver, signs, mode, cadence, notices, captures, counters, draws as it was. -/
@[simp] theorem loopLoss_frame (s : State) :
    (loopLoss s).pending = s.pending ∧ (loopLoss s).inReset = s.inReset ∧ (loopLoss s).tables = s.tables ∧
    (loopLoss s).validation = s.validation ∧ (loopLoss s).boundaries = s.boundaries ∧ (loopLoss s).portA = s.portA ∧
    (loopLoss s).portB = s.portB ∧ (loopLoss s).forward = s.forward ∧ (loopLoss s).node = s.node ∧
    (loopLoss s).requests = s.requests ∧ (loopLoss s).uptime = s.uptime := by
  simp [loopLoss]

/-- `loadZone` leaves everything but hazard as it was. -/
@[simp] theorem loadZone_frame (s : State) (z : Nat) :
    (loadZone s z).pending = s.pending ∧ (loadZone s z).inReset = s.inReset ∧ (loadZone s z).tables = s.tables ∧
    (loadZone s z).layout = s.layout ∧ (loadZone s z).validation = s.validation ∧ (loadZone s z).store = s.store ∧
    (loadZone s z).solver = s.solver ∧ (loadZone s z).signs = s.signs ∧ (loadZone s z).boundaries = s.boundaries ∧
    (loadZone s z).mode = s.mode ∧ (loadZone s z).portA = s.portA ∧ (loadZone s z).portB = s.portB ∧
    (loadZone s z).forward = s.forward ∧ (loadZone s z).cadence = s.cadence ∧ (loadZone s z).node = s.node ∧
    (loadZone s z).requests = s.requests ∧ (loadZone s z).notices = s.notices ∧ (loadZone s z).captures = s.captures ∧
    (loadZone s z).counters = s.counters ∧ (loadZone s z).uptime = s.uptime ∧ (loadZone s z).draws = s.draws := by
  simp [loadZone]

/-- `loadUsability` leaves everything but hazard as it was. -/
@[simp] theorem loadUsability_frame (s : State) (e : Nat) :
    (loadUsability s e).pending = s.pending ∧ (loadUsability s e).inReset = s.inReset ∧ (loadUsability s e).tables = s.tables ∧
    (loadUsability s e).layout = s.layout ∧ (loadUsability s e).validation = s.validation ∧ (loadUsability s e).store = s.store ∧
    (loadUsability s e).solver = s.solver ∧ (loadUsability s e).signs = s.signs ∧ (loadUsability s e).boundaries = s.boundaries ∧
    (loadUsability s e).mode = s.mode ∧ (loadUsability s e).portA = s.portA ∧ (loadUsability s e).portB = s.portB ∧
    (loadUsability s e).forward = s.forward ∧ (loadUsability s e).cadence = s.cadence ∧ (loadUsability s e).node = s.node ∧
    (loadUsability s e).requests = s.requests ∧ (loadUsability s e).notices = s.notices ∧
    (loadUsability s e).captures = s.captures ∧ (loadUsability s e).counters = s.counters ∧
    (loadUsability s e).uptime = s.uptime ∧ (loadUsability s e).draws = s.draws := by
  simp [loadUsability]

/-- `tableLoaded` leaves everything but hazard as it was. -/
@[simp] theorem tableLoaded_frame (s : State) :
    (tableLoaded s).pending = s.pending ∧ (tableLoaded s).inReset = s.inReset ∧ (tableLoaded s).tables = s.tables ∧
    (tableLoaded s).layout = s.layout ∧ (tableLoaded s).validation = s.validation ∧ (tableLoaded s).store = s.store ∧
    (tableLoaded s).solver = s.solver ∧ (tableLoaded s).signs = s.signs ∧ (tableLoaded s).boundaries = s.boundaries ∧
    (tableLoaded s).mode = s.mode ∧ (tableLoaded s).portA = s.portA ∧ (tableLoaded s).portB = s.portB ∧
    (tableLoaded s).forward = s.forward ∧ (tableLoaded s).cadence = s.cadence ∧ (tableLoaded s).node = s.node ∧
    (tableLoaded s).requests = s.requests ∧ (tableLoaded s).notices = s.notices ∧ (tableLoaded s).captures = s.captures ∧
    (tableLoaded s).counters = s.counters ∧ (tableLoaded s).uptime = s.uptime ∧ (tableLoaded s).draws = s.draws := by
  unfold tableLoaded
  dsimp only
  split <;>
  exact ⟨((foldl_field State.pending _ (by simp) _ _).trans (foldl_field State.pending _ (by simp) _ _)).trans (by simp),
    ((foldl_field State.inReset _ (by simp) _ _).trans (foldl_field State.inReset _ (by simp) _ _)).trans (by simp),
    ((foldl_field State.tables _ (by simp) _ _).trans (foldl_field State.tables _ (by simp) _ _)).trans (by simp),
    ((foldl_field State.layout _ (by simp) _ _).trans (foldl_field State.layout _ (by simp) _ _)).trans (by simp),
    ((foldl_field State.validation _ (by simp) _ _).trans (foldl_field State.validation _ (by simp) _ _)).trans (by simp),
    ((foldl_field State.store _ (by simp) _ _).trans (foldl_field State.store _ (by simp) _ _)).trans (by simp),
    ((foldl_field State.solver _ (by simp) _ _).trans (foldl_field State.solver _ (by simp) _ _)).trans (by simp),
    ((foldl_field State.signs _ (by simp) _ _).trans (foldl_field State.signs _ (by simp) _ _)).trans (by simp),
    ((foldl_field State.boundaries _ (by simp) _ _).trans (foldl_field State.boundaries _ (by simp) _ _)).trans (by simp),
    ((foldl_field State.mode _ (by simp) _ _).trans (foldl_field State.mode _ (by simp) _ _)).trans (by simp),
    ((foldl_field State.portA _ (by simp) _ _).trans (foldl_field State.portA _ (by simp) _ _)).trans (by simp),
    ((foldl_field State.portB _ (by simp) _ _).trans (foldl_field State.portB _ (by simp) _ _)).trans (by simp),
    ((foldl_field State.forward _ (by simp) _ _).trans (foldl_field State.forward _ (by simp) _ _)).trans (by simp),
    ((foldl_field State.cadence _ (by simp) _ _).trans (foldl_field State.cadence _ (by simp) _ _)).trans (by simp),
    ((foldl_field State.node _ (by simp) _ _).trans (foldl_field State.node _ (by simp) _ _)).trans (by simp),
    ((foldl_field State.requests _ (by simp) _ _).trans (foldl_field State.requests _ (by simp) _ _)).trans (by simp),
    ((foldl_field State.notices _ (by simp) _ _).trans (foldl_field State.notices _ (by simp) _ _)).trans (by simp),
    ((foldl_field State.captures _ (by simp) _ _).trans (foldl_field State.captures _ (by simp) _ _)).trans (by simp),
    ((foldl_field State.counters _ (by simp) _ _).trans (foldl_field State.counters _ (by simp) _ _)).trans (by simp),
    ((foldl_field State.uptime _ (by simp) _ _).trans (foldl_field State.uptime _ (by simp) _ _)).trans (by simp),
    ((foldl_field State.draws _ (by simp) _ _).trans (foldl_field State.draws _ (by simp) _ _)).trans (by simp)⟩

/-- `clearFaults` leaves everything but hazard as it was. -/
@[simp] theorem clearFaults_frame (z : Nat) (s : State) :
    (clearFaults z s).pending = s.pending ∧ (clearFaults z s).inReset = s.inReset ∧ (clearFaults z s).tables = s.tables ∧
    (clearFaults z s).layout = s.layout ∧ (clearFaults z s).validation = s.validation ∧ (clearFaults z s).store = s.store ∧
    (clearFaults z s).solver = s.solver ∧ (clearFaults z s).signs = s.signs ∧ (clearFaults z s).boundaries = s.boundaries ∧
    (clearFaults z s).mode = s.mode ∧ (clearFaults z s).portA = s.portA ∧ (clearFaults z s).portB = s.portB ∧
    (clearFaults z s).forward = s.forward ∧ (clearFaults z s).cadence = s.cadence ∧ (clearFaults z s).node = s.node ∧
    (clearFaults z s).requests = s.requests ∧ (clearFaults z s).notices = s.notices ∧ (clearFaults z s).captures = s.captures ∧
    (clearFaults z s).counters = s.counters ∧ (clearFaults z s).uptime = s.uptime ∧ (clearFaults z s).draws = s.draws := by
  simp [clearFaults]

/-- `resetZone` leaves everything but layout, store, hazard, solver, signs, mode, cadence, notices, captures, counters, draws as it was. -/
@[simp] theorem resetZone_frame (z : Nat) (s : State) :
    (resetZone z s).pending = s.pending ∧ (resetZone z s).inReset = s.inReset ∧ (resetZone z s).tables = s.tables ∧
    (resetZone z s).validation = s.validation ∧ (resetZone z s).boundaries = s.boundaries ∧ (resetZone z s).portA = s.portA ∧
    (resetZone z s).portB = s.portB ∧ (resetZone z s).forward = s.forward ∧ (resetZone z s).node = s.node ∧
    (resetZone z s).requests = s.requests ∧ (resetZone z s).uptime = s.uptime := by
  simp [resetZone]

/-- `isolateZone` leaves everything but layout, store, hazard, solver, signs, mode, cadence, notices, captures, counters, draws as it was. -/
@[simp] theorem isolateZone_frame (z : Nat) (b : Bool) (s : State) :
    (isolateZone z b s).pending = s.pending ∧ (isolateZone z b s).inReset = s.inReset ∧ (isolateZone z b s).tables = s.tables ∧
    (isolateZone z b s).validation = s.validation ∧ (isolateZone z b s).boundaries = s.boundaries ∧
    (isolateZone z b s).portA = s.portA ∧ (isolateZone z b s).portB = s.portB ∧ (isolateZone z b s).forward = s.forward ∧
    (isolateZone z b s).node = s.node ∧ (isolateZone z b s).requests = s.requests ∧ (isolateZone z b s).uptime = s.uptime := by
  simp [isolateZone]

/-- `confirmZone` leaves everything but layout, store, hazard, solver, signs, mode, cadence, notices, captures, counters, draws as it was. -/
@[simp] theorem confirmZone_frame (z : Nat) (s : State) :
    (confirmZone z s).pending = s.pending ∧ (confirmZone z s).inReset = s.inReset ∧ (confirmZone z s).tables = s.tables ∧
    (confirmZone z s).validation = s.validation ∧ (confirmZone z s).boundaries = s.boundaries ∧
    (confirmZone z s).portA = s.portA ∧ (confirmZone z s).portB = s.portB ∧ (confirmZone z s).forward = s.forward ∧
    (confirmZone z s).node = s.node ∧ (confirmZone z s).requests = s.requests ∧ (confirmZone z s).uptime = s.uptime := by
  simp [confirmZone]

end Sys2Proof.Machine
end

