-- ==== Sys2Proof/Laws/Solver.lean ====
section
/-! SUPPORT. The route solver: what its operations leave as it was; the EXIT place and the tier of an exit as a target. -/

namespace Sys2Proof.Machine

/-- `balance` leaves everything but solver as it was. -/
@[simp] theorem balance_frame (sn : Snapshot) (s : State) :
    (balance sn s).pending = s.pending ∧ (balance sn s).inReset = s.inReset ∧ (balance sn s).tables = s.tables ∧
    (balance sn s).layout = s.layout ∧ (balance sn s).validation = s.validation ∧ (balance sn s).store = s.store ∧
    (balance sn s).hazard = s.hazard ∧ (balance sn s).signs = s.signs ∧ (balance sn s).boundaries = s.boundaries ∧
    (balance sn s).mode = s.mode ∧ (balance sn s).portA = s.portA ∧ (balance sn s).portB = s.portB ∧
    (balance sn s).forward = s.forward ∧ (balance sn s).cadence = s.cadence ∧ (balance sn s).node = s.node ∧
    (balance sn s).requests = s.requests ∧ (balance sn s).notices = s.notices ∧ (balance sn s).captures = s.captures ∧
    (balance sn s).counters = s.counters ∧ (balance sn s).uptime = s.uptime ∧ (balance sn s).draws = s.draws := by
  unfold balance
  try dsimp only
  repeat' split
  all_goals simp

/-- `endHarm` leaves everything but solver as it was. -/
@[simp] theorem endHarm_frame (sn : Snapshot) (s : State) :
    (endHarm sn s).pending = s.pending ∧ (endHarm sn s).inReset = s.inReset ∧ (endHarm sn s).tables = s.tables ∧
    (endHarm sn s).layout = s.layout ∧ (endHarm sn s).validation = s.validation ∧ (endHarm sn s).store = s.store ∧
    (endHarm sn s).hazard = s.hazard ∧ (endHarm sn s).signs = s.signs ∧ (endHarm sn s).boundaries = s.boundaries ∧
    (endHarm sn s).mode = s.mode ∧ (endHarm sn s).portA = s.portA ∧ (endHarm sn s).portB = s.portB ∧
    (endHarm sn s).forward = s.forward ∧ (endHarm sn s).cadence = s.cadence ∧ (endHarm sn s).node = s.node ∧
    (endHarm sn s).requests = s.requests ∧ (endHarm sn s).notices = s.notices ∧ (endHarm sn s).captures = s.captures ∧
    (endHarm sn s).counters = s.counters ∧ (endHarm sn s).uptime = s.uptime ∧ (endHarm sn s).draws = s.draws := by
  simp [endHarm]

/-- `endSafe` leaves everything but solver as it was. -/
@[simp] theorem endSafe_frame (sn : Snapshot) (s : State) :
    (endSafe sn s).pending = s.pending ∧ (endSafe sn s).inReset = s.inReset ∧ (endSafe sn s).tables = s.tables ∧
    (endSafe sn s).layout = s.layout ∧ (endSafe sn s).validation = s.validation ∧ (endSafe sn s).store = s.store ∧
    (endSafe sn s).hazard = s.hazard ∧ (endSafe sn s).signs = s.signs ∧ (endSafe sn s).boundaries = s.boundaries ∧
    (endSafe sn s).mode = s.mode ∧ (endSafe sn s).portA = s.portA ∧ (endSafe sn s).portB = s.portB ∧
    (endSafe sn s).forward = s.forward ∧ (endSafe sn s).cadence = s.cadence ∧ (endSafe sn s).node = s.node ∧
    (endSafe sn s).requests = s.requests ∧ (endSafe sn s).notices = s.notices ∧ (endSafe sn s).captures = s.captures ∧
    (endSafe sn s).counters = s.counters ∧ (endSafe sn s).uptime = s.uptime ∧ (endSafe sn s).draws = s.draws := by
  unfold endSafe
  try dsimp only
  repeat' split
  all_goals simp

/-- `sweepStep` leaves everything but solver, notices, counters as it was. -/
@[simp] theorem sweepStep_frame (h : Bool) (sn : Snapshot) (s : State) :
    (sweepStep h sn s).pending = s.pending ∧ (sweepStep h sn s).inReset = s.inReset ∧ (sweepStep h sn s).tables = s.tables ∧
    (sweepStep h sn s).layout = s.layout ∧ (sweepStep h sn s).validation = s.validation ∧ (sweepStep h sn s).store = s.store ∧
    (sweepStep h sn s).hazard = s.hazard ∧ (sweepStep h sn s).signs = s.signs ∧ (sweepStep h sn s).boundaries = s.boundaries ∧
    (sweepStep h sn s).mode = s.mode ∧ (sweepStep h sn s).portA = s.portA ∧ (sweepStep h sn s).portB = s.portB ∧
    (sweepStep h sn s).forward = s.forward ∧ (sweepStep h sn s).cadence = s.cadence ∧ (sweepStep h sn s).node = s.node ∧
    (sweepStep h sn s).requests = s.requests ∧ (sweepStep h sn s).captures = s.captures ∧ (sweepStep h sn s).uptime = s.uptime ∧
    (sweepStep h sn s).draws = s.draws := by
  unfold sweepStep
  try dsimp only
  repeat' split
  all_goals simp

/-- `installSelections` leaves everything but signs as it was. -/
@[simp] theorem installSelections_frame (x : List Selection) (z : List ZoneState) (s : State) :
    (installSelections x z s).pending = s.pending ∧ (installSelections x z s).inReset = s.inReset ∧
    (installSelections x z s).tables = s.tables ∧ (installSelections x z s).layout = s.layout ∧
    (installSelections x z s).validation = s.validation ∧ (installSelections x z s).store = s.store ∧
    (installSelections x z s).hazard = s.hazard ∧ (installSelections x z s).solver = s.solver ∧
    (installSelections x z s).boundaries = s.boundaries ∧ (installSelections x z s).mode = s.mode ∧
    (installSelections x z s).portA = s.portA ∧ (installSelections x z s).portB = s.portB ∧
    (installSelections x z s).forward = s.forward ∧ (installSelections x z s).cadence = s.cadence ∧
    (installSelections x z s).node = s.node ∧ (installSelections x z s).requests = s.requests ∧
    (installSelections x z s).notices = s.notices ∧ (installSelections x z s).captures = s.captures ∧
    (installSelections x z s).counters = s.counters ∧ (installSelections x z s).uptime = s.uptime ∧
    (installSelections x z s).draws = s.draws := by
  simp [installSelections]

/-- `installSolution` leaves everything but solver as it was. -/
@[simp] theorem installSolution_frame (c : Committed) (s : State) :
    (installSolution c s).pending = s.pending ∧ (installSolution c s).inReset = s.inReset ∧
    (installSolution c s).tables = s.tables ∧ (installSolution c s).layout = s.layout ∧
    (installSolution c s).validation = s.validation ∧ (installSolution c s).store = s.store ∧
    (installSolution c s).hazard = s.hazard ∧ (installSolution c s).signs = s.signs ∧
    (installSolution c s).boundaries = s.boundaries ∧ (installSolution c s).mode = s.mode ∧
    (installSolution c s).portA = s.portA ∧ (installSolution c s).portB = s.portB ∧ (installSolution c s).forward = s.forward ∧
    (installSolution c s).cadence = s.cadence ∧ (installSolution c s).node = s.node ∧
    (installSolution c s).requests = s.requests ∧ (installSolution c s).notices = s.notices ∧
    (installSolution c s).captures = s.captures ∧ (installSolution c s).counters = s.counters ∧
    (installSolution c s).uptime = s.uptime ∧ (installSolution c s).draws = s.draws := by
  exact ⟨rfl, rfl, rfl, rfl, rfl, rfl, rfl, rfl, rfl, rfl, rfl, rfl, rfl, rfl, rfl, rfl, rfl, rfl, rfl, rfl, rfl⟩

/-- `commit` leaves everything but solver, signs, boundaries, notices, counters as it was. -/
@[simp] theorem commit_frame (sn : Snapshot) (s : State) :
    (commit sn s).pending = s.pending ∧ (commit sn s).inReset = s.inReset ∧ (commit sn s).tables = s.tables ∧
    (commit sn s).layout = s.layout ∧ (commit sn s).validation = s.validation ∧ (commit sn s).store = s.store ∧
    (commit sn s).hazard = s.hazard ∧ (commit sn s).mode = s.mode ∧ (commit sn s).portA = s.portA ∧
    (commit sn s).portB = s.portB ∧ (commit sn s).forward = s.forward ∧ (commit sn s).cadence = s.cadence ∧
    (commit sn s).node = s.node ∧ (commit sn s).requests = s.requests ∧ (commit sn s).captures = s.captures ∧
    (commit sn s).uptime = s.uptime ∧ (commit sn s).draws = s.draws := by
  unfold commit
  try dsimp only
  repeat' split
  all_goals simp

/-- The EXIT place of an exit is an active EXIT place that names it. -/
theorem exitPlace_spec {l : LayoutTables} {e p : Nat} (h : exitPlace l e = some p) :
    p < l.header.placeCount ∧ (placeOf l p).kind = .exit ∧ (placeOf l p).exitId = some e := by
  have hm := List.mem_of_find?_eq_some h
  have hp := List.find?_some h
  simp only [Bool.and_eq_true, decide_eq_true_eq] at hp
  exact ⟨List.mem_range.mp hm, hp.1, hp.2⟩

/-- An exit with an EXIT place has the tier of its entry where its target cost is not above the route ceiling, else none. -/
theorem targetTier_placed {sn : Snapshot} {l : LayoutTables} {bs : List Nat} {e p : Nat} (h : exitPlace l e = some p) :
    targetTier sn l bs e = if targetCost sn bs e (placeOf l p).zone ≤ sn.routeCeiling then sn.exitTier e else 0 := by
  simp [targetTier, h]

/-- An exit that no EXIT place names has the tier of its entry. -/
theorem targetTier_unplaced {sn : Snapshot} {l : LayoutTables} {bs : List Nat} {e : Nat} (h : exitPlace l e = none) :
    targetTier sn l bs e = sn.exitTier e := by
  simp [targetTier, h]

end Sys2Proof.Machine
end

