-- ==== Sys2Proof/Laws/Layout.lean ====
section
/-! SUPPORT. The layout lifecycle and the store: what their operations leave as it was, what the store then holds, and when its image is
valid; the first bad index of a check. -/

namespace Sys2Proof.Machine

/-- `activate` leaves everything but layout, solver, signs, boundaries as it was. -/
@[simp] theorem activate_frame (s : State) :
    (activate s).pending = s.pending ∧ (activate s).inReset = s.inReset ∧ (activate s).tables = s.tables ∧
    (activate s).validation = s.validation ∧ (activate s).store = s.store ∧ (activate s).hazard = s.hazard ∧
    (activate s).mode = s.mode ∧ (activate s).portA = s.portA ∧ (activate s).portB = s.portB ∧ (activate s).forward = s.forward ∧
    (activate s).cadence = s.cadence ∧ (activate s).node = s.node ∧ (activate s).requests = s.requests ∧
    (activate s).notices = s.notices ∧ (activate s).captures = s.captures ∧ (activate s).counters = s.counters ∧
    (activate s).uptime = s.uptime ∧ (activate s).draws = s.draws := by
  simp [activate]

/-- `withdrawSolver` leaves everything but solver as it was. -/
@[simp] theorem withdrawSolver_frame (s : State) :
    (withdrawSolver s).pending = s.pending ∧ (withdrawSolver s).inReset = s.inReset ∧ (withdrawSolver s).tables = s.tables ∧
    (withdrawSolver s).layout = s.layout ∧ (withdrawSolver s).validation = s.validation ∧ (withdrawSolver s).store = s.store ∧
    (withdrawSolver s).hazard = s.hazard ∧ (withdrawSolver s).signs = s.signs ∧ (withdrawSolver s).boundaries = s.boundaries ∧
    (withdrawSolver s).mode = s.mode ∧ (withdrawSolver s).portA = s.portA ∧ (withdrawSolver s).portB = s.portB ∧
    (withdrawSolver s).forward = s.forward ∧ (withdrawSolver s).cadence = s.cadence ∧ (withdrawSolver s).node = s.node ∧
    (withdrawSolver s).requests = s.requests ∧ (withdrawSolver s).notices = s.notices ∧ (withdrawSolver s).captures = s.captures ∧
    (withdrawSolver s).counters = s.counters ∧ (withdrawSolver s).uptime = s.uptime ∧ (withdrawSolver s).draws = s.draws := by
  exact ⟨rfl, rfl, rfl, rfl, rfl, rfl, rfl, rfl, rfl, rfl, rfl, rfl, rfl, rfl, rfl, rfl, rfl, rfl, rfl, rfl, rfl⟩

/-- `countAbandoned` leaves everything but notices, counters as it was. -/
@[simp] theorem countAbandoned_frame (s : State) :
    (countAbandoned s).pending = s.pending ∧ (countAbandoned s).inReset = s.inReset ∧ (countAbandoned s).tables = s.tables ∧
    (countAbandoned s).layout = s.layout ∧ (countAbandoned s).validation = s.validation ∧ (countAbandoned s).store = s.store ∧
    (countAbandoned s).hazard = s.hazard ∧ (countAbandoned s).solver = s.solver ∧ (countAbandoned s).signs = s.signs ∧
    (countAbandoned s).boundaries = s.boundaries ∧ (countAbandoned s).mode = s.mode ∧ (countAbandoned s).portA = s.portA ∧
    (countAbandoned s).portB = s.portB ∧ (countAbandoned s).forward = s.forward ∧ (countAbandoned s).cadence = s.cadence ∧
    (countAbandoned s).node = s.node ∧ (countAbandoned s).requests = s.requests ∧ (countAbandoned s).captures = s.captures ∧
    (countAbandoned s).uptime = s.uptime ∧ (countAbandoned s).draws = s.draws := by
  unfold countAbandoned
  try dsimp only
  repeat' split
  all_goals simp

/-- `withdraw` leaves everything but solver, signs, boundaries, notices, counters as it was. -/
@[simp] theorem withdraw_frame (s : State) :
    (withdraw s).pending = s.pending ∧ (withdraw s).inReset = s.inReset ∧ (withdraw s).tables = s.tables ∧
    (withdraw s).layout = s.layout ∧ (withdraw s).validation = s.validation ∧ (withdraw s).store = s.store ∧
    (withdraw s).hazard = s.hazard ∧ (withdraw s).mode = s.mode ∧ (withdraw s).portA = s.portA ∧ (withdraw s).portB = s.portB ∧
    (withdraw s).forward = s.forward ∧ (withdraw s).cadence = s.cadence ∧ (withdraw s).node = s.node ∧
    (withdraw s).requests = s.requests ∧ (withdraw s).captures = s.captures ∧ (withdraw s).uptime = s.uptime ∧
    (withdraw s).draws = s.draws := by
  simp [withdraw]

/-- `completionDue` leaves everything but requests as it was. -/
@[simp] theorem completionDue_frame (x : Status) (f : List Byte) (s : State) :
    (completionDue x f s).pending = s.pending ∧ (completionDue x f s).inReset = s.inReset ∧
    (completionDue x f s).tables = s.tables ∧ (completionDue x f s).layout = s.layout ∧
    (completionDue x f s).validation = s.validation ∧ (completionDue x f s).store = s.store ∧
    (completionDue x f s).hazard = s.hazard ∧ (completionDue x f s).solver = s.solver ∧ (completionDue x f s).signs = s.signs ∧
    (completionDue x f s).boundaries = s.boundaries ∧ (completionDue x f s).mode = s.mode ∧
    (completionDue x f s).portA = s.portA ∧ (completionDue x f s).portB = s.portB ∧ (completionDue x f s).forward = s.forward ∧
    (completionDue x f s).cadence = s.cadence ∧ (completionDue x f s).node = s.node ∧ (completionDue x f s).notices = s.notices ∧
    (completionDue x f s).captures = s.captures ∧ (completionDue x f s).counters = s.counters ∧
    (completionDue x f s).uptime = s.uptime ∧ (completionDue x f s).draws = s.draws := by
  unfold completionDue
  try dsimp only
  repeat' split
  all_goals simp

/-- `validationPassed` leaves everything but layout, validation, solver, signs, boundaries, requests as it was. -/
@[simp] theorem validationPassed_frame (s : State) :
    (validationPassed s).pending = s.pending ∧ (validationPassed s).inReset = s.inReset ∧ (validationPassed s).tables = s.tables ∧
    (validationPassed s).store = s.store ∧ (validationPassed s).hazard = s.hazard ∧ (validationPassed s).mode = s.mode ∧
    (validationPassed s).portA = s.portA ∧ (validationPassed s).portB = s.portB ∧ (validationPassed s).forward = s.forward ∧
    (validationPassed s).cadence = s.cadence ∧ (validationPassed s).node = s.node ∧ (validationPassed s).notices = s.notices ∧
    (validationPassed s).captures = s.captures ∧ (validationPassed s).counters = s.counters ∧
    (validationPassed s).uptime = s.uptime ∧ (validationPassed s).draws = s.draws := by
  simp [validationPassed]

/-- `validationFailed` leaves everything but layout, validation, requests as it was. -/
@[simp] theorem validationFailed_frame (f : Finding) (s : State) :
    (validationFailed f s).pending = s.pending ∧ (validationFailed f s).inReset = s.inReset ∧
    (validationFailed f s).tables = s.tables ∧ (validationFailed f s).store = s.store ∧ (validationFailed f s).hazard = s.hazard ∧
    (validationFailed f s).solver = s.solver ∧ (validationFailed f s).signs = s.signs ∧
    (validationFailed f s).boundaries = s.boundaries ∧ (validationFailed f s).mode = s.mode ∧
    (validationFailed f s).portA = s.portA ∧ (validationFailed f s).portB = s.portB ∧ (validationFailed f s).forward = s.forward ∧
    (validationFailed f s).cadence = s.cadence ∧ (validationFailed f s).node = s.node ∧
    (validationFailed f s).notices = s.notices ∧ (validationFailed f s).captures = s.captures ∧
    (validationFailed f s).counters = s.counters ∧ (validationFailed f s).uptime = s.uptime ∧
    (validationFailed f s).draws = s.draws := by
  simp [validationFailed]

/-- `storeIdle` leaves everything but store as it was. -/
@[simp] theorem storeIdle_frame (v : Bool) (s : State) :
    (storeIdle v s).pending = s.pending ∧ (storeIdle v s).inReset = s.inReset ∧ (storeIdle v s).tables = s.tables ∧
    (storeIdle v s).layout = s.layout ∧ (storeIdle v s).validation = s.validation ∧ (storeIdle v s).hazard = s.hazard ∧
    (storeIdle v s).solver = s.solver ∧ (storeIdle v s).signs = s.signs ∧ (storeIdle v s).boundaries = s.boundaries ∧
    (storeIdle v s).mode = s.mode ∧ (storeIdle v s).portA = s.portA ∧ (storeIdle v s).portB = s.portB ∧
    (storeIdle v s).forward = s.forward ∧ (storeIdle v s).cadence = s.cadence ∧ (storeIdle v s).node = s.node ∧
    (storeIdle v s).requests = s.requests ∧ (storeIdle v s).notices = s.notices ∧ (storeIdle v s).captures = s.captures ∧
    (storeIdle v s).counters = s.counters ∧ (storeIdle v s).uptime = s.uptime ∧ (storeIdle v s).draws = s.draws := by
  exact ⟨rfl, rfl, rfl, rfl, rfl, rfl, rfl, rfl, rfl, rfl, rfl, rfl, rfl, rfl, rfl, rfl, rfl, rfl, rfl, rfl, rfl⟩

/-- `noLayout` leaves everything but tables, layout as it was. -/
@[simp] theorem noLayout_frame (s : State) :
    (noLayout s).pending = s.pending ∧ (noLayout s).inReset = s.inReset ∧ (noLayout s).validation = s.validation ∧
    (noLayout s).store = s.store ∧ (noLayout s).hazard = s.hazard ∧ (noLayout s).solver = s.solver ∧
    (noLayout s).signs = s.signs ∧ (noLayout s).boundaries = s.boundaries ∧ (noLayout s).mode = s.mode ∧
    (noLayout s).portA = s.portA ∧ (noLayout s).portB = s.portB ∧ (noLayout s).forward = s.forward ∧
    (noLayout s).cadence = s.cadence ∧ (noLayout s).node = s.node ∧ (noLayout s).requests = s.requests ∧
    (noLayout s).notices = s.notices ∧ (noLayout s).captures = s.captures ∧ (noLayout s).counters = s.counters ∧
    (noLayout s).uptime = s.uptime ∧ (noLayout s).draws = s.draws := by
  exact ⟨rfl, rfl, rfl, rfl, rfl, rfl, rfl, rfl, rfl, rfl, rfl, rfl, rfl, rfl, rfl, rfl, rfl, rfl, rfl, rfl⟩

/-- `takeImageLayout` leaves everything but tables as it was. -/
@[simp] theorem takeImageLayout_frame (s : State) :
    (takeImageLayout s).pending = s.pending ∧ (takeImageLayout s).inReset = s.inReset ∧ (takeImageLayout s).layout = s.layout ∧
    (takeImageLayout s).validation = s.validation ∧ (takeImageLayout s).store = s.store ∧ (takeImageLayout s).hazard = s.hazard ∧
    (takeImageLayout s).solver = s.solver ∧ (takeImageLayout s).signs = s.signs ∧ (takeImageLayout s).boundaries = s.boundaries ∧
    (takeImageLayout s).mode = s.mode ∧ (takeImageLayout s).portA = s.portA ∧ (takeImageLayout s).portB = s.portB ∧
    (takeImageLayout s).forward = s.forward ∧ (takeImageLayout s).cadence = s.cadence ∧ (takeImageLayout s).node = s.node ∧
    (takeImageLayout s).requests = s.requests ∧ (takeImageLayout s).notices = s.notices ∧
    (takeImageLayout s).captures = s.captures ∧ (takeImageLayout s).counters = s.counters ∧
    (takeImageLayout s).uptime = s.uptime ∧ (takeImageLayout s).draws = s.draws := by
  exact ⟨rfl, rfl, rfl, rfl, rfl, rfl, rfl, rfl, rfl, rfl, rfl, rfl, rfl, rfl, rfl, rfl, rfl, rfl, rfl, rfl, rfl⟩

/-- `takeImage` leaves everything but tables, hazard as it was. -/
@[simp] theorem takeImage_frame (s : State) :
    (takeImage s).pending = s.pending ∧ (takeImage s).inReset = s.inReset ∧ (takeImage s).layout = s.layout ∧
    (takeImage s).validation = s.validation ∧ (takeImage s).store = s.store ∧ (takeImage s).solver = s.solver ∧
    (takeImage s).signs = s.signs ∧ (takeImage s).boundaries = s.boundaries ∧ (takeImage s).mode = s.mode ∧
    (takeImage s).portA = s.portA ∧ (takeImage s).portB = s.portB ∧ (takeImage s).forward = s.forward ∧
    (takeImage s).cadence = s.cadence ∧ (takeImage s).node = s.node ∧ (takeImage s).requests = s.requests ∧
    (takeImage s).notices = s.notices ∧ (takeImage s).captures = s.captures ∧ (takeImage s).counters = s.counters ∧
    (takeImage s).uptime = s.uptime ∧ (takeImage s).draws = s.draws := by
  simp [takeImage]

/-- `saved` leaves everything but store as it was. -/
@[simp] theorem saved_frame (s : State) :
    (saved s).pending = s.pending ∧ (saved s).inReset = s.inReset ∧ (saved s).tables = s.tables ∧ (saved s).layout = s.layout ∧
    (saved s).validation = s.validation ∧ (saved s).hazard = s.hazard ∧ (saved s).solver = s.solver ∧ (saved s).signs = s.signs ∧
    (saved s).boundaries = s.boundaries ∧ (saved s).mode = s.mode ∧ (saved s).portA = s.portA ∧ (saved s).portB = s.portB ∧
    (saved s).forward = s.forward ∧ (saved s).cadence = s.cadence ∧ (saved s).node = s.node ∧ (saved s).requests = s.requests ∧
    (saved s).notices = s.notices ∧ (saved s).captures = s.captures ∧ (saved s).counters = s.counters ∧
    (saved s).uptime = s.uptime ∧ (saved s).draws = s.draws := by
  exact ⟨rfl, rfl, rfl, rfl, rfl, rfl, rfl, rfl, rfl, rfl, rfl, rfl, rfl, rfl, rfl, rfl, rfl, rfl, rfl, rfl, rfl⟩

/-- The store after a save that ends OK. -/
@[simp] theorem saved_store (s : State) :
    (saved s).store = ⟨.idle, true, s.store.saveCount + 1, true, Config.imageCheck s.tables, s.tables⟩ := rfl

/-- The store after its operation has ended. -/
@[simp] theorem storeIdle_store (v : Bool) (s : State) : (storeIdle v s).store = { s.store with op := .idle, valid := v } := rfl

/-- An image is valid where its marker is present, its check matches its contents and the cells give it back. -/
theorem imageValid_iff (r : Store) (ok : Bool) :
    imageValid r ok = true ↔ r.marker = true ∧ r.check = Config.imageCheck r.image ∧ ok = true := by
  simp only [imageValid, Bool.and_eq_true, decide_eq_true_eq]
  exact ⟨fun ⟨⟨a, b⟩, c⟩ => ⟨a, c, b⟩, fun ⟨a, c, b⟩ => ⟨⟨a, b⟩, c⟩⟩

/-- An image that a save has just written is valid as far as the cells give it back. -/
@[simp] theorem imageValid_written (op : StoreOp) (v : Bool) (n : BitVec 16) (t : Tables) (ok : Bool) :
    imageValid ⟨op, v, n, true, Config.imageCheck t, t⟩ ok = ok := by
  simp [imageValid]

/-- An image whose marker is erased is not valid. -/
@[simp] theorem imageValid_erased (op : StoreOp) (v : Bool) (n : BitVec 16) (k : Nat) (t : Tables) (ok : Bool) :
    imageValid ⟨op, v, n, false, k, t⟩ ok = false := rfl

/-- The first bad index: the lowest one that does not meet the condition. -/
theorem firstBad_eq_some (n : Nat) (ok : Nat → Bool) (i : Nat) :
    firstBad n ok = some i ↔ (i < n ∧ ok i = false ∧ ∀ j, j < i → ok j = true) := by
  unfold firstBad
  rw [List.find?_range_eq_some]
  simp [and_left_comm]

/-- No bad index: every index meets the condition. -/
theorem firstBad_eq_none (n : Nat) (ok : Nat → Bool) : firstBad n ok = none ↔ ∀ i, i < n → ok i = true := by
  unfold firstBad
  simp [List.find?_eq_none]

end Sys2Proof.Machine
end

