-- ==== Sys2Proof/Laws/Loop.lean ====
section
/-! SUPPORT. The hall loop: what its operations leave as it was; which classes wait; when an entry and the retired address have run out. -/

namespace Sys2Proof.Machine

/-- `beatMissed` leaves everything but cadence, notices, counters as it was. -/
@[simp] theorem beatMissed_frame (s : State) :
    (beatMissed s).pending = s.pending ∧ (beatMissed s).inReset = s.inReset ∧ (beatMissed s).tables = s.tables ∧
    (beatMissed s).layout = s.layout ∧ (beatMissed s).validation = s.validation ∧ (beatMissed s).store = s.store ∧
    (beatMissed s).hazard = s.hazard ∧ (beatMissed s).solver = s.solver ∧ (beatMissed s).signs = s.signs ∧
    (beatMissed s).boundaries = s.boundaries ∧ (beatMissed s).mode = s.mode ∧ (beatMissed s).portA = s.portA ∧
    (beatMissed s).portB = s.portB ∧ (beatMissed s).forward = s.forward ∧ (beatMissed s).node = s.node ∧
    (beatMissed s).requests = s.requests ∧ (beatMissed s).captures = s.captures ∧ (beatMissed s).uptime = s.uptime ∧
    (beatMissed s).draws = s.draws := by
  unfold beatMissed
  try dsimp only
  repeat' split
  all_goals simp

/-- `expireEntry` leaves everything but cadence, notices, counters as it was. -/
@[simp] theorem expireEntry_frame (i : Nat) (s : State) :
    (expireEntry i s).pending = s.pending ∧ (expireEntry i s).inReset = s.inReset ∧ (expireEntry i s).tables = s.tables ∧
    (expireEntry i s).layout = s.layout ∧ (expireEntry i s).validation = s.validation ∧ (expireEntry i s).store = s.store ∧
    (expireEntry i s).hazard = s.hazard ∧ (expireEntry i s).solver = s.solver ∧ (expireEntry i s).signs = s.signs ∧
    (expireEntry i s).boundaries = s.boundaries ∧ (expireEntry i s).mode = s.mode ∧ (expireEntry i s).portA = s.portA ∧
    (expireEntry i s).portB = s.portB ∧ (expireEntry i s).forward = s.forward ∧ (expireEntry i s).node = s.node ∧
    (expireEntry i s).requests = s.requests ∧ (expireEntry i s).captures = s.captures ∧ (expireEntry i s).uptime = s.uptime ∧
    (expireEntry i s).draws = s.draws := by
  unfold expireEntry
  try dsimp only
  repeat' split
  all_goals simp

/-- `beatSent` leaves everything but cadence, notices, counters as it was. -/
@[simp] theorem beatSent_frame (n : Fin 8) (s : State) :
    (beatSent n s).pending = s.pending ∧ (beatSent n s).inReset = s.inReset ∧ (beatSent n s).tables = s.tables ∧
    (beatSent n s).layout = s.layout ∧ (beatSent n s).validation = s.validation ∧ (beatSent n s).store = s.store ∧
    (beatSent n s).hazard = s.hazard ∧ (beatSent n s).solver = s.solver ∧ (beatSent n s).signs = s.signs ∧
    (beatSent n s).boundaries = s.boundaries ∧ (beatSent n s).mode = s.mode ∧ (beatSent n s).portA = s.portA ∧
    (beatSent n s).portB = s.portB ∧ (beatSent n s).forward = s.forward ∧ (beatSent n s).node = s.node ∧
    (beatSent n s).requests = s.requests ∧ (beatSent n s).captures = s.captures ∧ (beatSent n s).uptime = s.uptime ∧
    (beatSent n s).draws = s.draws := by
  unfold beatSent
  try dsimp only
  repeat' split
  all_goals simp

/-- `beatReturned` leaves everything but cadence as it was. -/
@[simp] theorem beatReturned_frame (t : Telegram) (s : State) :
    (beatReturned t s).pending = s.pending ∧ (beatReturned t s).inReset = s.inReset ∧ (beatReturned t s).tables = s.tables ∧
    (beatReturned t s).layout = s.layout ∧ (beatReturned t s).validation = s.validation ∧ (beatReturned t s).store = s.store ∧
    (beatReturned t s).hazard = s.hazard ∧ (beatReturned t s).solver = s.solver ∧ (beatReturned t s).signs = s.signs ∧
    (beatReturned t s).boundaries = s.boundaries ∧ (beatReturned t s).mode = s.mode ∧ (beatReturned t s).portA = s.portA ∧
    (beatReturned t s).portB = s.portB ∧ (beatReturned t s).forward = s.forward ∧ (beatReturned t s).node = s.node ∧
    (beatReturned t s).requests = s.requests ∧ (beatReturned t s).notices = s.notices ∧ (beatReturned t s).captures = s.captures ∧
    (beatReturned t s).counters = s.counters ∧ (beatReturned t s).uptime = s.uptime ∧ (beatReturned t s).draws = s.draws := by
  unfold beatReturned
  try dsimp only
  repeat' split
  all_goals simp

/-- `enqueueRequest` leaves everything but requests, notices, counters as it was. -/
@[simp] theorem enqueueRequest_frame (t : Telegram) (b : Bool) (s : State) :
    (enqueueRequest t b s).pending = s.pending ∧ (enqueueRequest t b s).inReset = s.inReset ∧
    (enqueueRequest t b s).tables = s.tables ∧ (enqueueRequest t b s).layout = s.layout ∧
    (enqueueRequest t b s).validation = s.validation ∧ (enqueueRequest t b s).store = s.store ∧
    (enqueueRequest t b s).hazard = s.hazard ∧ (enqueueRequest t b s).solver = s.solver ∧ (enqueueRequest t b s).signs = s.signs ∧
    (enqueueRequest t b s).boundaries = s.boundaries ∧ (enqueueRequest t b s).mode = s.mode ∧
    (enqueueRequest t b s).portA = s.portA ∧ (enqueueRequest t b s).portB = s.portB ∧ (enqueueRequest t b s).forward = s.forward ∧
    (enqueueRequest t b s).cadence = s.cadence ∧ (enqueueRequest t b s).node = s.node ∧
    (enqueueRequest t b s).captures = s.captures ∧ (enqueueRequest t b s).uptime = s.uptime ∧
    (enqueueRequest t b s).draws = s.draws := by
  unfold enqueueRequest
  try dsimp only
  repeat' split
  all_goals simp

/-- `takeAddressed` leaves everything but signs, node, requests, notices, counters as it was. -/
@[simp] theorem takeAddressed_frame (t : Telegram) (s : State) :
    (takeAddressed t s).pending = s.pending ∧ (takeAddressed t s).inReset = s.inReset ∧ (takeAddressed t s).tables = s.tables ∧
    (takeAddressed t s).layout = s.layout ∧ (takeAddressed t s).validation = s.validation ∧ (takeAddressed t s).store = s.store ∧
    (takeAddressed t s).hazard = s.hazard ∧ (takeAddressed t s).solver = s.solver ∧
    (takeAddressed t s).boundaries = s.boundaries ∧ (takeAddressed t s).mode = s.mode ∧ (takeAddressed t s).portA = s.portA ∧
    (takeAddressed t s).portB = s.portB ∧ (takeAddressed t s).forward = s.forward ∧ (takeAddressed t s).cadence = s.cadence ∧
    (takeAddressed t s).captures = s.captures ∧ (takeAddressed t s).uptime = s.uptime ∧ (takeAddressed t s).draws = s.draws := by
  unfold takeAddressed
  try dsimp only
  repeat' split
  all_goals simp

/-- `takeBroadcast` leaves everything but solver, boundaries, requests, notices, counters as it was. -/
@[simp] theorem takeBroadcast_frame (t : Telegram) (s : State) :
    (takeBroadcast t s).pending = s.pending ∧ (takeBroadcast t s).inReset = s.inReset ∧ (takeBroadcast t s).tables = s.tables ∧
    (takeBroadcast t s).layout = s.layout ∧ (takeBroadcast t s).validation = s.validation ∧ (takeBroadcast t s).store = s.store ∧
    (takeBroadcast t s).hazard = s.hazard ∧ (takeBroadcast t s).signs = s.signs ∧ (takeBroadcast t s).mode = s.mode ∧
    (takeBroadcast t s).portA = s.portA ∧ (takeBroadcast t s).portB = s.portB ∧ (takeBroadcast t s).forward = s.forward ∧
    (takeBroadcast t s).cadence = s.cadence ∧ (takeBroadcast t s).node = s.node ∧ (takeBroadcast t s).captures = s.captures ∧
    (takeBroadcast t s).uptime = s.uptime ∧ (takeBroadcast t s).draws = s.draws := by
  unfold takeBroadcast
  try dsimp only
  repeat' split
  all_goals simp

/-- `takeCredit` leaves everything but portB, forward as it was. -/
@[simp] theorem takeCredit_frame (c : TClass) (s : State) :
    (takeCredit c s).pending = s.pending ∧ (takeCredit c s).inReset = s.inReset ∧ (takeCredit c s).tables = s.tables ∧
    (takeCredit c s).layout = s.layout ∧ (takeCredit c s).validation = s.validation ∧ (takeCredit c s).store = s.store ∧
    (takeCredit c s).hazard = s.hazard ∧ (takeCredit c s).solver = s.solver ∧ (takeCredit c s).signs = s.signs ∧
    (takeCredit c s).boundaries = s.boundaries ∧ (takeCredit c s).mode = s.mode ∧ (takeCredit c s).portA = s.portA ∧
    (takeCredit c s).cadence = s.cadence ∧ (takeCredit c s).node = s.node ∧ (takeCredit c s).requests = s.requests ∧
    (takeCredit c s).notices = s.notices ∧ (takeCredit c s).captures = s.captures ∧ (takeCredit c s).counters = s.counters ∧
    (takeCredit c s).uptime = s.uptime ∧ (takeCredit c s).draws = s.draws := by
  exact ⟨rfl, rfl, rfl, rfl, rfl, rfl, rfl, rfl, rfl, rfl, rfl, rfl, rfl, rfl, rfl, rfl, rfl, rfl, rfl, rfl⟩

/-- `transmit` leaves everything but portB, forward as it was. -/
@[simp] theorem transmit_frame (t : Telegram) (n : Option Nat) (s : State) :
    (transmit t n s).pending = s.pending ∧ (transmit t n s).inReset = s.inReset ∧ (transmit t n s).tables = s.tables ∧
    (transmit t n s).layout = s.layout ∧ (transmit t n s).validation = s.validation ∧ (transmit t n s).store = s.store ∧
    (transmit t n s).hazard = s.hazard ∧ (transmit t n s).solver = s.solver ∧ (transmit t n s).signs = s.signs ∧
    (transmit t n s).boundaries = s.boundaries ∧ (transmit t n s).mode = s.mode ∧ (transmit t n s).portA = s.portA ∧
    (transmit t n s).cadence = s.cadence ∧ (transmit t n s).node = s.node ∧ (transmit t n s).requests = s.requests ∧
    (transmit t n s).notices = s.notices ∧ (transmit t n s).captures = s.captures ∧ (transmit t n s).counters = s.counters ∧
    (transmit t n s).uptime = s.uptime ∧ (transmit t n s).draws = s.draws := by
  simp [transmit]

/-- `passTurn` leaves everything but forward as it was. -/
@[simp] theorem passTurn_frame (x : Side) (s : State) :
    (passTurn x s).pending = s.pending ∧ (passTurn x s).inReset = s.inReset ∧ (passTurn x s).tables = s.tables ∧
    (passTurn x s).layout = s.layout ∧ (passTurn x s).validation = s.validation ∧ (passTurn x s).store = s.store ∧
    (passTurn x s).hazard = s.hazard ∧ (passTurn x s).solver = s.solver ∧ (passTurn x s).signs = s.signs ∧
    (passTurn x s).boundaries = s.boundaries ∧ (passTurn x s).mode = s.mode ∧ (passTurn x s).portA = s.portA ∧
    (passTurn x s).portB = s.portB ∧ (passTurn x s).cadence = s.cadence ∧ (passTurn x s).node = s.node ∧
    (passTurn x s).requests = s.requests ∧ (passTurn x s).notices = s.notices ∧ (passTurn x s).captures = s.captures ∧
    (passTurn x s).counters = s.counters ∧ (passTurn x s).uptime = s.uptime ∧ (passTurn x s).draws = s.draws := by
  exact ⟨rfl, rfl, rfl, rfl, rfl, rfl, rfl, rfl, rfl, rfl, rfl, rfl, rfl, rfl, rfl, rfl, rfl, rfl, rfl, rfl, rfl⟩

/-- `takeForwarded` leaves everything but portA, portB, forward, notices, counters as it was. -/
@[simp] theorem takeForwarded_frame (p : PoolSlot) (s : State) :
    (takeForwarded p s).pending = s.pending ∧ (takeForwarded p s).inReset = s.inReset ∧ (takeForwarded p s).tables = s.tables ∧
    (takeForwarded p s).layout = s.layout ∧ (takeForwarded p s).validation = s.validation ∧ (takeForwarded p s).store = s.store ∧
    (takeForwarded p s).hazard = s.hazard ∧ (takeForwarded p s).solver = s.solver ∧ (takeForwarded p s).signs = s.signs ∧
    (takeForwarded p s).boundaries = s.boundaries ∧ (takeForwarded p s).mode = s.mode ∧ (takeForwarded p s).cadence = s.cadence ∧
    (takeForwarded p s).node = s.node ∧ (takeForwarded p s).requests = s.requests ∧ (takeForwarded p s).captures = s.captures ∧
    (takeForwarded p s).uptime = s.uptime ∧ (takeForwarded p s).draws = s.draws := by
  unfold takeForwarded
  try dsimp only
  repeat' split
  all_goals simp

/-- `noticeTaken` leaves everything but notices as it was. -/
@[simp] theorem noticeTaken_frame (n : Nat) (s : State) :
    (noticeTaken n s).pending = s.pending ∧ (noticeTaken n s).inReset = s.inReset ∧ (noticeTaken n s).tables = s.tables ∧
    (noticeTaken n s).layout = s.layout ∧ (noticeTaken n s).validation = s.validation ∧ (noticeTaken n s).store = s.store ∧
    (noticeTaken n s).hazard = s.hazard ∧ (noticeTaken n s).solver = s.solver ∧ (noticeTaken n s).signs = s.signs ∧
    (noticeTaken n s).boundaries = s.boundaries ∧ (noticeTaken n s).mode = s.mode ∧ (noticeTaken n s).portA = s.portA ∧
    (noticeTaken n s).portB = s.portB ∧ (noticeTaken n s).forward = s.forward ∧ (noticeTaken n s).cadence = s.cadence ∧
    (noticeTaken n s).node = s.node ∧ (noticeTaken n s).requests = s.requests ∧ (noticeTaken n s).captures = s.captures ∧
    (noticeTaken n s).counters = s.counters ∧ (noticeTaken n s).uptime = s.uptime ∧ (noticeTaken n s).draws = s.draws := by
  exact ⟨rfl, rfl, rfl, rfl, rfl, rfl, rfl, rfl, rfl, rfl, rfl, rfl, rfl, rfl, rfl, rfl, rfl, rfl, rfl, rfl, rfl⟩

/-- `responseTaken` leaves everything but requests as it was. -/
@[simp] theorem responseTaken_frame (r : Response) (s : State) :
    (responseTaken r s).pending = s.pending ∧ (responseTaken r s).inReset = s.inReset ∧ (responseTaken r s).tables = s.tables ∧
    (responseTaken r s).layout = s.layout ∧ (responseTaken r s).validation = s.validation ∧ (responseTaken r s).store = s.store ∧
    (responseTaken r s).hazard = s.hazard ∧ (responseTaken r s).solver = s.solver ∧ (responseTaken r s).signs = s.signs ∧
    (responseTaken r s).boundaries = s.boundaries ∧ (responseTaken r s).mode = s.mode ∧ (responseTaken r s).portA = s.portA ∧
    (responseTaken r s).portB = s.portB ∧ (responseTaken r s).forward = s.forward ∧ (responseTaken r s).cadence = s.cadence ∧
    (responseTaken r s).node = s.node ∧ (responseTaken r s).notices = s.notices ∧ (responseTaken r s).captures = s.captures ∧
    (responseTaken r s).counters = s.counters ∧ (responseTaken r s).uptime = s.uptime ∧ (responseTaken r s).draws = s.draws := by
  exact ⟨rfl, rfl, rfl, rfl, rfl, rfl, rfl, rfl, rfl, rfl, rfl, rfl, rfl, rfl, rfl, rfl, rfl, rfl, rfl, rfl, rfl⟩

/-- `takeSign` leaves everything but signs, portB, forward, notices, counters as it was. -/
@[simp] theorem takeSign_frame (x : SignOffer) (s : State) :
    (takeSign x s).pending = s.pending ∧ (takeSign x s).inReset = s.inReset ∧ (takeSign x s).tables = s.tables ∧
    (takeSign x s).layout = s.layout ∧ (takeSign x s).validation = s.validation ∧ (takeSign x s).store = s.store ∧
    (takeSign x s).hazard = s.hazard ∧ (takeSign x s).solver = s.solver ∧ (takeSign x s).boundaries = s.boundaries ∧
    (takeSign x s).mode = s.mode ∧ (takeSign x s).portA = s.portA ∧ (takeSign x s).cadence = s.cadence ∧
    (takeSign x s).node = s.node ∧ (takeSign x s).requests = s.requests ∧ (takeSign x s).captures = s.captures ∧
    (takeSign x s).uptime = s.uptime ∧ (takeSign x s).draws = s.draws := by
  unfold takeSign
  try dsimp only
  repeat' split
  all_goals simp

/-- `takeOwnAdvert` leaves everything but boundaries, portB, forward as it was. -/
@[simp] theorem takeOwnAdvert_frame (b : Nat) (s : State) :
    (takeOwnAdvert b s).pending = s.pending ∧ (takeOwnAdvert b s).inReset = s.inReset ∧ (takeOwnAdvert b s).tables = s.tables ∧
    (takeOwnAdvert b s).layout = s.layout ∧ (takeOwnAdvert b s).validation = s.validation ∧ (takeOwnAdvert b s).store = s.store ∧
    (takeOwnAdvert b s).hazard = s.hazard ∧ (takeOwnAdvert b s).solver = s.solver ∧ (takeOwnAdvert b s).signs = s.signs ∧
    (takeOwnAdvert b s).mode = s.mode ∧ (takeOwnAdvert b s).portA = s.portA ∧ (takeOwnAdvert b s).cadence = s.cadence ∧
    (takeOwnAdvert b s).node = s.node ∧ (takeOwnAdvert b s).requests = s.requests ∧ (takeOwnAdvert b s).notices = s.notices ∧
    (takeOwnAdvert b s).captures = s.captures ∧ (takeOwnAdvert b s).counters = s.counters ∧
    (takeOwnAdvert b s).uptime = s.uptime ∧ (takeOwnAdvert b s).draws = s.draws := by
  simp [takeOwnAdvert]

/-- `takeChoice` leaves everything but signs, boundaries, portA, portB, forward, cadence, requests, notices, counters as it was. -/
@[simp] theorem takeChoice_frame (c : Choice) (s : State) :
    (takeChoice c s).pending = s.pending ∧ (takeChoice c s).inReset = s.inReset ∧ (takeChoice c s).tables = s.tables ∧
    (takeChoice c s).layout = s.layout ∧ (takeChoice c s).validation = s.validation ∧ (takeChoice c s).store = s.store ∧
    (takeChoice c s).hazard = s.hazard ∧ (takeChoice c s).solver = s.solver ∧ (takeChoice c s).mode = s.mode ∧
    (takeChoice c s).node = s.node ∧ (takeChoice c s).captures = s.captures ∧ (takeChoice c s).uptime = s.uptime ∧
    (takeChoice c s).draws = s.draws := by
  unfold takeChoice
  try dsimp only
  repeat' split
  all_goals simp

/-- `arbitrate` leaves everything but signs, boundaries, portA, portB, forward, cadence, requests, notices, counters as it was. -/
@[simp] theorem arbitrate_frame (s : State) :
    (arbitrate s).pending = s.pending ∧ (arbitrate s).inReset = s.inReset ∧ (arbitrate s).tables = s.tables ∧
    (arbitrate s).layout = s.layout ∧ (arbitrate s).validation = s.validation ∧ (arbitrate s).store = s.store ∧
    (arbitrate s).hazard = s.hazard ∧ (arbitrate s).solver = s.solver ∧ (arbitrate s).mode = s.mode ∧
    (arbitrate s).node = s.node ∧ (arbitrate s).captures = s.captures ∧ (arbitrate s).uptime = s.uptime ∧
    (arbitrate s).draws = s.draws := by
  unfold arbitrate
  try dsimp only
  repeat' split
  all_goals simp

/-- `forwardSlot` leaves everything but portA, portB, forward, notices, counters as it was. -/
@[simp] theorem forwardSlot_frame (n : Nat) (x : Bool) (t : Telegram) (s : State) :
    (forwardSlot n x t s).pending = s.pending ∧ (forwardSlot n x t s).inReset = s.inReset ∧
    (forwardSlot n x t s).tables = s.tables ∧ (forwardSlot n x t s).layout = s.layout ∧
    (forwardSlot n x t s).validation = s.validation ∧ (forwardSlot n x t s).store = s.store ∧
    (forwardSlot n x t s).hazard = s.hazard ∧ (forwardSlot n x t s).solver = s.solver ∧ (forwardSlot n x t s).signs = s.signs ∧
    (forwardSlot n x t s).boundaries = s.boundaries ∧ (forwardSlot n x t s).mode = s.mode ∧
    (forwardSlot n x t s).cadence = s.cadence ∧ (forwardSlot n x t s).node = s.node ∧
    (forwardSlot n x t s).requests = s.requests ∧ (forwardSlot n x t s).captures = s.captures ∧
    (forwardSlot n x t s).uptime = s.uptime ∧ (forwardSlot n x t s).draws = s.draws := by
  unfold forwardSlot
  try dsimp only
  repeat' split
  all_goals simp

/-- `sortArrival` leaves everything but solver, signs, boundaries, portA, portB, forward, cadence, node, requests, notices, counters as it was. -/
@[simp] theorem sortArrival_frame (n : Nat) (x : Bool) (t : Telegram) (s : State) :
    (sortArrival n x t s).pending = s.pending ∧ (sortArrival n x t s).inReset = s.inReset ∧
    (sortArrival n x t s).tables = s.tables ∧ (sortArrival n x t s).layout = s.layout ∧
    (sortArrival n x t s).validation = s.validation ∧ (sortArrival n x t s).store = s.store ∧
    (sortArrival n x t s).hazard = s.hazard ∧ (sortArrival n x t s).mode = s.mode ∧ (sortArrival n x t s).captures = s.captures ∧
    (sortArrival n x t s).uptime = s.uptime ∧ (sortArrival n x t s).draws = s.draws := by
  unfold sortArrival
  try dsimp only
  repeat' split
  all_goals simp

/-- `snoopReport` leaves everything but layout, store, hazard, solver, signs, mode, cadence, notices, captures, counters, draws as it was. -/
@[simp] theorem snoopReport_frame (t : Telegram) (s : State) :
    (snoopReport t s).pending = s.pending ∧ (snoopReport t s).inReset = s.inReset ∧ (snoopReport t s).tables = s.tables ∧
    (snoopReport t s).validation = s.validation ∧ (snoopReport t s).boundaries = s.boundaries ∧
    (snoopReport t s).portA = s.portA ∧ (snoopReport t s).portB = s.portB ∧ (snoopReport t s).forward = s.forward ∧
    (snoopReport t s).node = s.node ∧ (snoopReport t s).requests = s.requests ∧ (snoopReport t s).uptime = s.uptime := by
  unfold snoopReport
  try dsimp only
  repeat' split
  all_goals simp

/-- `fillSlot` leaves everything but portA as it was. -/
@[simp] theorem fillSlot_frame (n : Nat) (t : Telegram) (s : State) :
    (fillSlot n t s).pending = s.pending ∧ (fillSlot n t s).inReset = s.inReset ∧ (fillSlot n t s).tables = s.tables ∧
    (fillSlot n t s).layout = s.layout ∧ (fillSlot n t s).validation = s.validation ∧ (fillSlot n t s).store = s.store ∧
    (fillSlot n t s).hazard = s.hazard ∧ (fillSlot n t s).solver = s.solver ∧ (fillSlot n t s).signs = s.signs ∧
    (fillSlot n t s).boundaries = s.boundaries ∧ (fillSlot n t s).mode = s.mode ∧ (fillSlot n t s).portB = s.portB ∧
    (fillSlot n t s).forward = s.forward ∧ (fillSlot n t s).cadence = s.cadence ∧ (fillSlot n t s).node = s.node ∧
    (fillSlot n t s).requests = s.requests ∧ (fillSlot n t s).notices = s.notices ∧ (fillSlot n t s).captures = s.captures ∧
    (fillSlot n t s).counters = s.counters ∧ (fillSlot n t s).uptime = s.uptime ∧ (fillSlot n t s).draws = s.draws := by
  exact ⟨rfl, rfl, rfl, rfl, rfl, rfl, rfl, rfl, rfl, rfl, rfl, rfl, rfl, rfl, rfl, rfl, rfl, rfl, rfl, rfl, rfl⟩

/-- `goodArrival` leaves everything but layout, store, hazard, solver, signs, boundaries, mode, portA, portB, forward, cadence, node, requests, notices, captures, counters, draws as it was. -/
@[simp] theorem goodArrival_frame (t : Telegram) (s : State) :
    (goodArrival t s).pending = s.pending ∧ (goodArrival t s).inReset = s.inReset ∧ (goodArrival t s).tables = s.tables ∧
    (goodArrival t s).validation = s.validation ∧ (goodArrival t s).uptime = s.uptime := by
  unfold goodArrival
  try dsimp only
  repeat' split
  all_goals simp

/-- `badArrival` leaves everything but portA, notices, counters as it was. -/
@[simp] theorem badArrival_frame (c : Option CreditKind) (s : State) :
    (badArrival c s).pending = s.pending ∧ (badArrival c s).inReset = s.inReset ∧ (badArrival c s).tables = s.tables ∧
    (badArrival c s).layout = s.layout ∧ (badArrival c s).validation = s.validation ∧ (badArrival c s).store = s.store ∧
    (badArrival c s).hazard = s.hazard ∧ (badArrival c s).solver = s.solver ∧ (badArrival c s).signs = s.signs ∧
    (badArrival c s).boundaries = s.boundaries ∧ (badArrival c s).mode = s.mode ∧ (badArrival c s).portB = s.portB ∧
    (badArrival c s).forward = s.forward ∧ (badArrival c s).cadence = s.cadence ∧ (badArrival c s).node = s.node ∧
    (badArrival c s).requests = s.requests ∧ (badArrival c s).captures = s.captures ∧ (badArrival c s).uptime = s.uptime ∧
    (badArrival c s).draws = s.draws := by
  unfold badArrival
  try dsimp only
  repeat' split
  all_goals simp

/-- `seeTelegram` leaves everything but portA as it was. -/
@[simp] theorem seeTelegram_frame (s : State) :
    (seeTelegram s).pending = s.pending ∧ (seeTelegram s).inReset = s.inReset ∧ (seeTelegram s).tables = s.tables ∧
    (seeTelegram s).layout = s.layout ∧ (seeTelegram s).validation = s.validation ∧ (seeTelegram s).store = s.store ∧
    (seeTelegram s).hazard = s.hazard ∧ (seeTelegram s).solver = s.solver ∧ (seeTelegram s).signs = s.signs ∧
    (seeTelegram s).boundaries = s.boundaries ∧ (seeTelegram s).mode = s.mode ∧ (seeTelegram s).portB = s.portB ∧
    (seeTelegram s).forward = s.forward ∧ (seeTelegram s).cadence = s.cadence ∧ (seeTelegram s).node = s.node ∧
    (seeTelegram s).requests = s.requests ∧ (seeTelegram s).notices = s.notices ∧ (seeTelegram s).captures = s.captures ∧
    (seeTelegram s).counters = s.counters ∧ (seeTelegram s).uptime = s.uptime ∧ (seeTelegram s).draws = s.draws := by
  exact ⟨rfl, rfl, rfl, rfl, rfl, rfl, rfl, rfl, rfl, rfl, rfl, rfl, rfl, rfl, rfl, rfl, rfl, rfl, rfl, rfl, rfl⟩

/-- `setLane` leaves everything but portA as it was. -/
@[simp] theorem setLane_frame (n : Lane) (x : LaneA) (s : State) :
    (setLane n x s).pending = s.pending ∧ (setLane n x s).inReset = s.inReset ∧ (setLane n x s).tables = s.tables ∧
    (setLane n x s).layout = s.layout ∧ (setLane n x s).validation = s.validation ∧ (setLane n x s).store = s.store ∧
    (setLane n x s).hazard = s.hazard ∧ (setLane n x s).solver = s.solver ∧ (setLane n x s).signs = s.signs ∧
    (setLane n x s).boundaries = s.boundaries ∧ (setLane n x s).mode = s.mode ∧ (setLane n x s).portB = s.portB ∧
    (setLane n x s).forward = s.forward ∧ (setLane n x s).cadence = s.cadence ∧ (setLane n x s).node = s.node ∧
    (setLane n x s).requests = s.requests ∧ (setLane n x s).notices = s.notices ∧ (setLane n x s).captures = s.captures ∧
    (setLane n x s).counters = s.counters ∧ (setLane n x s).uptime = s.uptime ∧ (setLane n x s).draws = s.draws := by
  unfold setLane
  try dsimp only
  repeat' split
  all_goals simp

/-- `trainPortA` leaves everything but hazard, portA as it was. -/
@[simp] theorem trainPortA_frame (s : State) :
    (trainPortA s).pending = s.pending ∧ (trainPortA s).inReset = s.inReset ∧ (trainPortA s).tables = s.tables ∧
    (trainPortA s).layout = s.layout ∧ (trainPortA s).validation = s.validation ∧ (trainPortA s).store = s.store ∧
    (trainPortA s).solver = s.solver ∧ (trainPortA s).signs = s.signs ∧ (trainPortA s).boundaries = s.boundaries ∧
    (trainPortA s).mode = s.mode ∧ (trainPortA s).portB = s.portB ∧ (trainPortA s).forward = s.forward ∧
    (trainPortA s).cadence = s.cadence ∧ (trainPortA s).node = s.node ∧ (trainPortA s).requests = s.requests ∧
    (trainPortA s).notices = s.notices ∧ (trainPortA s).captures = s.captures ∧ (trainPortA s).counters = s.counters ∧
    (trainPortA s).uptime = s.uptime ∧ (trainPortA s).draws = s.draws := by
  simp [trainPortA]

/-- `portADown` leaves everything but layout, store, hazard, solver, signs, mode, portA, cadence, notices, captures, counters, draws as it was. -/
@[simp] theorem portADown_frame (s : State) :
    (portADown s).pending = s.pending ∧ (portADown s).inReset = s.inReset ∧ (portADown s).tables = s.tables ∧
    (portADown s).validation = s.validation ∧ (portADown s).boundaries = s.boundaries ∧ (portADown s).portB = s.portB ∧
    (portADown s).forward = s.forward ∧ (portADown s).node = s.node ∧ (portADown s).requests = s.requests ∧
    (portADown s).uptime = s.uptime := by
  simp [portADown]

/-- `afterLaneLoss` leaves everything but layout, store, hazard, solver, signs, mode, portA, cadence, notices, captures, counters, draws as it was. -/
@[simp] theorem afterLaneLoss_frame (s : State) :
    (afterLaneLoss s).pending = s.pending ∧ (afterLaneLoss s).inReset = s.inReset ∧ (afterLaneLoss s).tables = s.tables ∧
    (afterLaneLoss s).validation = s.validation ∧ (afterLaneLoss s).boundaries = s.boundaries ∧
    (afterLaneLoss s).portB = s.portB ∧ (afterLaneLoss s).forward = s.forward ∧ (afterLaneLoss s).node = s.node ∧
    (afterLaneLoss s).requests = s.requests ∧ (afterLaneLoss s).uptime = s.uptime := by
  unfold afterLaneLoss
  try dsimp only
  repeat' split
  all_goals simp

/-- `afterLaneUp` leaves everything but hazard, portA as it was. -/
@[simp] theorem afterLaneUp_frame (s : State) :
    (afterLaneUp s).pending = s.pending ∧ (afterLaneUp s).inReset = s.inReset ∧ (afterLaneUp s).tables = s.tables ∧
    (afterLaneUp s).layout = s.layout ∧ (afterLaneUp s).validation = s.validation ∧ (afterLaneUp s).store = s.store ∧
    (afterLaneUp s).solver = s.solver ∧ (afterLaneUp s).signs = s.signs ∧ (afterLaneUp s).boundaries = s.boundaries ∧
    (afterLaneUp s).mode = s.mode ∧ (afterLaneUp s).portB = s.portB ∧ (afterLaneUp s).forward = s.forward ∧
    (afterLaneUp s).cadence = s.cadence ∧ (afterLaneUp s).node = s.node ∧ (afterLaneUp s).requests = s.requests ∧
    (afterLaneUp s).notices = s.notices ∧ (afterLaneUp s).captures = s.captures ∧ (afterLaneUp s).counters = s.counters ∧
    (afterLaneUp s).uptime = s.uptime ∧ (afterLaneUp s).draws = s.draws := by
  unfold afterLaneUp
  try dsimp only
  repeat' split
  all_goals simp

/-- `cutOff` leaves everything but portA, forward as it was. -/
@[simp] theorem cutOff_frame (s : State) :
    (cutOff s).pending = s.pending ∧ (cutOff s).inReset = s.inReset ∧ (cutOff s).tables = s.tables ∧
    (cutOff s).layout = s.layout ∧ (cutOff s).validation = s.validation ∧ (cutOff s).store = s.store ∧
    (cutOff s).hazard = s.hazard ∧ (cutOff s).solver = s.solver ∧ (cutOff s).signs = s.signs ∧
    (cutOff s).boundaries = s.boundaries ∧ (cutOff s).mode = s.mode ∧ (cutOff s).portB = s.portB ∧
    (cutOff s).cadence = s.cadence ∧ (cutOff s).node = s.node ∧ (cutOff s).requests = s.requests ∧
    (cutOff s).notices = s.notices ∧ (cutOff s).captures = s.captures ∧ (cutOff s).counters = s.counters ∧
    (cutOff s).uptime = s.uptime ∧ (cutOff s).draws = s.draws := by
  unfold cutOff
  try dsimp only
  repeat' split
  all_goals simp

/-- `portBDown` leaves everything but portA, portB, forward, notices as it was. -/
@[simp] theorem portBDown_frame (s : State) :
    (portBDown s).pending = s.pending ∧ (portBDown s).inReset = s.inReset ∧ (portBDown s).tables = s.tables ∧
    (portBDown s).layout = s.layout ∧ (portBDown s).validation = s.validation ∧ (portBDown s).store = s.store ∧
    (portBDown s).hazard = s.hazard ∧ (portBDown s).solver = s.solver ∧ (portBDown s).signs = s.signs ∧
    (portBDown s).boundaries = s.boundaries ∧ (portBDown s).mode = s.mode ∧ (portBDown s).cadence = s.cadence ∧
    (portBDown s).node = s.node ∧ (portBDown s).requests = s.requests ∧ (portBDown s).captures = s.captures ∧
    (portBDown s).counters = s.counters ∧ (portBDown s).uptime = s.uptime ∧ (portBDown s).draws = s.draws := by
  simp [portBDown]

/-- `portBUp` leaves everything but portB as it was. -/
@[simp] theorem portBUp_frame (g : Credits) (s : State) :
    (portBUp g s).pending = s.pending ∧ (portBUp g s).inReset = s.inReset ∧ (portBUp g s).tables = s.tables ∧
    (portBUp g s).layout = s.layout ∧ (portBUp g s).validation = s.validation ∧ (portBUp g s).store = s.store ∧
    (portBUp g s).hazard = s.hazard ∧ (portBUp g s).solver = s.solver ∧ (portBUp g s).signs = s.signs ∧
    (portBUp g s).boundaries = s.boundaries ∧ (portBUp g s).mode = s.mode ∧ (portBUp g s).portA = s.portA ∧
    (portBUp g s).forward = s.forward ∧ (portBUp g s).cadence = s.cadence ∧ (portBUp g s).node = s.node ∧
    (portBUp g s).requests = s.requests ∧ (portBUp g s).notices = s.notices ∧ (portBUp g s).captures = s.captures ∧
    (portBUp g s).counters = s.counters ∧ (portBUp g s).uptime = s.uptime ∧ (portBUp g s).draws = s.draws := by
  exact ⟨rfl, rfl, rfl, rfl, rfl, rfl, rfl, rfl, rfl, rfl, rfl, rfl, rfl, rfl, rfl, rfl, rfl, rfl, rfl, rfl, rfl⟩

/-- `laneReport` leaves everything but portA, portB, forward, notices as it was. -/
@[simp] theorem laneReport_frame (a b : Bool) (s : State) :
    (laneReport a b s).pending = s.pending ∧ (laneReport a b s).inReset = s.inReset ∧ (laneReport a b s).tables = s.tables ∧
    (laneReport a b s).layout = s.layout ∧ (laneReport a b s).validation = s.validation ∧ (laneReport a b s).store = s.store ∧
    (laneReport a b s).hazard = s.hazard ∧ (laneReport a b s).solver = s.solver ∧ (laneReport a b s).signs = s.signs ∧
    (laneReport a b s).boundaries = s.boundaries ∧ (laneReport a b s).mode = s.mode ∧ (laneReport a b s).cadence = s.cadence ∧
    (laneReport a b s).node = s.node ∧ (laneReport a b s).requests = s.requests ∧ (laneReport a b s).captures = s.captures ∧
    (laneReport a b s).counters = s.counters ∧ (laneReport a b s).uptime = s.uptime ∧ (laneReport a b s).draws = s.draws := by
  unfold laneReport
  try dsimp only
  repeat' split
  all_goals simp

/-- `takeGrant` leaves everything but portB as it was. -/
@[simp] theorem takeGrant_frame (g : Credits) (s : State) :
    (takeGrant g s).pending = s.pending ∧ (takeGrant g s).inReset = s.inReset ∧ (takeGrant g s).tables = s.tables ∧
    (takeGrant g s).layout = s.layout ∧ (takeGrant g s).validation = s.validation ∧ (takeGrant g s).store = s.store ∧
    (takeGrant g s).hazard = s.hazard ∧ (takeGrant g s).solver = s.solver ∧ (takeGrant g s).signs = s.signs ∧
    (takeGrant g s).boundaries = s.boundaries ∧ (takeGrant g s).mode = s.mode ∧ (takeGrant g s).portA = s.portA ∧
    (takeGrant g s).forward = s.forward ∧ (takeGrant g s).cadence = s.cadence ∧ (takeGrant g s).node = s.node ∧
    (takeGrant g s).requests = s.requests ∧ (takeGrant g s).notices = s.notices ∧ (takeGrant g s).captures = s.captures ∧
    (takeGrant g s).counters = s.counters ∧ (takeGrant g s).uptime = s.uptime ∧ (takeGrant g s).draws = s.draws := by
  unfold takeGrant
  try dsimp only
  repeat' split
  all_goals simp

/-- `laneLost` leaves everything but layout, store, hazard, solver, signs, mode, portA, cadence, notices, captures, counters, draws as it was. -/
@[simp] theorem laneLost_frame (n : Lane) (b : Bool) (s : State) :
    (laneLost n b s).pending = s.pending ∧ (laneLost n b s).inReset = s.inReset ∧ (laneLost n b s).tables = s.tables ∧
    (laneLost n b s).validation = s.validation ∧ (laneLost n b s).boundaries = s.boundaries ∧ (laneLost n b s).portB = s.portB ∧
    (laneLost n b s).forward = s.forward ∧ (laneLost n b s).node = s.node ∧ (laneLost n b s).requests = s.requests ∧
    (laneLost n b s).uptime = s.uptime := by
  unfold laneLost
  try dsimp only
  repeat' split
  all_goals simp

/-- `countWaits` leaves everything but notices and counters as it was. -/
@[simp] theorem countWaits_frame (cs : List TClass) (s : State) :
    (countWaits cs s).pending = s.pending ∧ (countWaits cs s).inReset = s.inReset ∧ (countWaits cs s).tables = s.tables ∧
    (countWaits cs s).layout = s.layout ∧ (countWaits cs s).validation = s.validation ∧ (countWaits cs s).store = s.store ∧
    (countWaits cs s).hazard = s.hazard ∧ (countWaits cs s).solver = s.solver ∧ (countWaits cs s).signs = s.signs ∧
    (countWaits cs s).boundaries = s.boundaries ∧ (countWaits cs s).mode = s.mode ∧ (countWaits cs s).portA = s.portA ∧
    (countWaits cs s).portB = s.portB ∧ (countWaits cs s).forward = s.forward ∧ (countWaits cs s).cadence = s.cadence ∧
    (countWaits cs s).node = s.node ∧ (countWaits cs s).requests = s.requests ∧ (countWaits cs s).captures = s.captures ∧
    (countWaits cs s).uptime = s.uptime ∧ (countWaits cs s).draws = s.draws := by
  unfold countWaits
  exact ⟨foldl_field State.pending _ (by simp) _ _, foldl_field State.inReset _ (by simp) _ _, foldl_field State.tables _ (by simp) _
    _, foldl_field State.layout _ (by simp) _ _, foldl_field State.validation _ (by simp) _ _, foldl_field State.store _ (by simp) _
    _, foldl_field State.hazard _ (by simp) _ _, foldl_field State.solver _ (by simp) _ _, foldl_field State.signs _ (by simp) _ _,
    foldl_field State.boundaries _ (by simp) _ _, foldl_field State.mode _ (by simp) _ _, foldl_field State.portA _ (by simp) _ _,
    foldl_field State.portB _ (by simp) _ _, foldl_field State.forward _ (by simp) _ _, foldl_field State.cadence _ (by simp) _ _,
    foldl_field State.node _ (by simp) _ _, foldl_field State.requests _ (by simp) _ _, foldl_field State.captures _ (by simp) _ _,
    foldl_field State.uptime _ (by simp) _ _, foldl_field State.draws _ (by simp) _ _⟩

/-- A class is counted as waiting where a telegram of it waits without a usable credit. -/
theorem mem_creditWaiters (s : State) (c : TClass) : c ∈ creditWaiters s ↔ waits s c = true ∧ usable s c = false := by
  have hc : c ∈ allClasses := by cases c <;> decide
  simp [creditWaiters, hc]

/-- An entry of the round check list has run out where it stands with no time left. -/
theorem entryRanOut_iff (i : Nat) (s : State) : entryRanOut i s = true ↔ ∃ b, s.cadence.round[i]? = some ⟨b, some 0⟩ := by
  unfold entryRanOut
  cases h : s.cadence.round[i]? with
  | none => simp
  | some e => cases e; simp [eq_comm]

/-- The retired address has run out where it stands with no time left. -/
theorem retiredRanOut_iff (s : State) : retiredRanOut s = true ↔ ∃ a, s.node.retired = some ⟨a, some 0⟩ := by
  unfold retiredRanOut
  cases h : s.node.retired with
  | none => simp
  | some e => cases e; simp [eq_comm]

end Sys2Proof.Machine
end

