-- ==== Sys2Proof/Laws/Requests.lean ====
section
/-! SUPPORT. Requests and resets: what their operations leave as it was. -/

namespace Sys2Proof.Machine

/-- `popHead` leaves everything but requests as it was. -/
@[simp] theorem popHead_frame (s : State) :
    (popHead s).pending = s.pending ∧ (popHead s).inReset = s.inReset ∧ (popHead s).tables = s.tables ∧
    (popHead s).layout = s.layout ∧ (popHead s).validation = s.validation ∧ (popHead s).store = s.store ∧
    (popHead s).hazard = s.hazard ∧ (popHead s).solver = s.solver ∧ (popHead s).signs = s.signs ∧
    (popHead s).boundaries = s.boundaries ∧ (popHead s).mode = s.mode ∧ (popHead s).portA = s.portA ∧
    (popHead s).portB = s.portB ∧ (popHead s).forward = s.forward ∧ (popHead s).cadence = s.cadence ∧ (popHead s).node = s.node ∧
    (popHead s).notices = s.notices ∧ (popHead s).captures = s.captures ∧ (popHead s).counters = s.counters ∧
    (popHead s).uptime = s.uptime ∧ (popHead s).draws = s.draws := by
  exact ⟨rfl, rfl, rfl, rfl, rfl, rfl, rfl, rfl, rfl, rfl, rfl, rfl, rfl, rfl, rfl, rfl, rfl, rfl, rfl, rfl, rfl⟩

/-- `recordOperation` leaves everything but requests as it was. -/
@[simp] theorem recordOperation_frame (e : ReqEntry) (s : State) :
    (recordOperation e s).pending = s.pending ∧ (recordOperation e s).inReset = s.inReset ∧
    (recordOperation e s).tables = s.tables ∧ (recordOperation e s).layout = s.layout ∧
    (recordOperation e s).validation = s.validation ∧ (recordOperation e s).store = s.store ∧
    (recordOperation e s).hazard = s.hazard ∧ (recordOperation e s).solver = s.solver ∧ (recordOperation e s).signs = s.signs ∧
    (recordOperation e s).boundaries = s.boundaries ∧ (recordOperation e s).mode = s.mode ∧
    (recordOperation e s).portA = s.portA ∧ (recordOperation e s).portB = s.portB ∧ (recordOperation e s).forward = s.forward ∧
    (recordOperation e s).cadence = s.cadence ∧ (recordOperation e s).node = s.node ∧ (recordOperation e s).notices = s.notices ∧
    (recordOperation e s).captures = s.captures ∧ (recordOperation e s).counters = s.counters ∧
    (recordOperation e s).uptime = s.uptime ∧ (recordOperation e s).draws = s.draws := by
  exact ⟨rfl, rfl, rfl, rfl, rfl, rfl, rfl, rfl, rfl, rfl, rfl, rfl, rfl, rfl, rfl, rfl, rfl, rfl, rfl, rfl, rfl⟩

/-- `writeZone` leaves everything but tables, layout, store, hazard, solver, signs, mode, cadence, notices, captures, counters, draws as it was. -/
@[simp] theorem writeZone_frame (z : Nat) (e : ZoneEntry) (s : State) :
    (writeZone z e s).pending = s.pending ∧ (writeZone z e s).inReset = s.inReset ∧ (writeZone z e s).validation = s.validation ∧
    (writeZone z e s).boundaries = s.boundaries ∧ (writeZone z e s).portA = s.portA ∧ (writeZone z e s).portB = s.portB ∧
    (writeZone z e s).forward = s.forward ∧ (writeZone z e s).node = s.node ∧ (writeZone z e s).requests = s.requests ∧
    (writeZone z e s).uptime = s.uptime := by
  simp [writeZone]

/-- `writeDetector` leaves everything but tables, layout, store, hazard, solver, signs, mode, cadence, notices, captures, counters, draws as it was. -/
@[simp] theorem writeDetector_frame (i : Nat) (e : DetectorEntry) (s : State) :
    (writeDetector i e s).pending = s.pending ∧ (writeDetector i e s).inReset = s.inReset ∧
    (writeDetector i e s).validation = s.validation ∧ (writeDetector i e s).boundaries = s.boundaries ∧
    (writeDetector i e s).portA = s.portA ∧ (writeDetector i e s).portB = s.portB ∧ (writeDetector i e s).forward = s.forward ∧
    (writeDetector i e s).node = s.node ∧ (writeDetector i e s).requests = s.requests ∧
    (writeDetector i e s).uptime = s.uptime := by
  unfold writeDetector
  try dsimp only
  repeat' split
  all_goals simp

/-- `writeExit` leaves everything but tables, hazard, solver, notices, counters as it was. -/
@[simp] theorem writeExit_frame (i : Nat) (e : ExitEntry) (s : State) :
    (writeExit i e s).pending = s.pending ∧ (writeExit i e s).inReset = s.inReset ∧ (writeExit i e s).layout = s.layout ∧
    (writeExit i e s).validation = s.validation ∧ (writeExit i e s).store = s.store ∧ (writeExit i e s).signs = s.signs ∧
    (writeExit i e s).boundaries = s.boundaries ∧ (writeExit i e s).mode = s.mode ∧ (writeExit i e s).portA = s.portA ∧
    (writeExit i e s).portB = s.portB ∧ (writeExit i e s).forward = s.forward ∧ (writeExit i e s).cadence = s.cadence ∧
    (writeExit i e s).node = s.node ∧ (writeExit i e s).requests = s.requests ∧ (writeExit i e s).captures = s.captures ∧
    (writeExit i e s).uptime = s.uptime ∧ (writeExit i e s).draws = s.draws := by
  simp [writeExit]

/-- `startPeriodIfStopped` leaves everything but captures as it was. -/
@[simp] theorem startPeriodIfStopped_frame (s : State) :
    (startPeriodIfStopped s).pending = s.pending ∧ (startPeriodIfStopped s).inReset = s.inReset ∧
    (startPeriodIfStopped s).tables = s.tables ∧ (startPeriodIfStopped s).layout = s.layout ∧
    (startPeriodIfStopped s).validation = s.validation ∧ (startPeriodIfStopped s).store = s.store ∧
    (startPeriodIfStopped s).hazard = s.hazard ∧ (startPeriodIfStopped s).solver = s.solver ∧
    (startPeriodIfStopped s).signs = s.signs ∧ (startPeriodIfStopped s).boundaries = s.boundaries ∧
    (startPeriodIfStopped s).mode = s.mode ∧ (startPeriodIfStopped s).portA = s.portA ∧ (startPeriodIfStopped s).portB = s.portB ∧
    (startPeriodIfStopped s).forward = s.forward ∧ (startPeriodIfStopped s).cadence = s.cadence ∧
    (startPeriodIfStopped s).node = s.node ∧ (startPeriodIfStopped s).requests = s.requests ∧
    (startPeriodIfStopped s).notices = s.notices ∧ (startPeriodIfStopped s).counters = s.counters ∧
    (startPeriodIfStopped s).uptime = s.uptime ∧ (startPeriodIfStopped s).draws = s.draws := by
  unfold startPeriodIfStopped
  try dsimp only
  repeat' split
  all_goals simp

/-- `writeParameter` leaves everything but tables, solver, notices, captures, counters as it was. -/
@[simp] theorem writeParameter_frame (i v : Nat) (s : State) :
    (writeParameter i v s).pending = s.pending ∧ (writeParameter i v s).inReset = s.inReset ∧
    (writeParameter i v s).layout = s.layout ∧ (writeParameter i v s).validation = s.validation ∧
    (writeParameter i v s).store = s.store ∧ (writeParameter i v s).hazard = s.hazard ∧ (writeParameter i v s).signs = s.signs ∧
    (writeParameter i v s).boundaries = s.boundaries ∧ (writeParameter i v s).mode = s.mode ∧
    (writeParameter i v s).portA = s.portA ∧ (writeParameter i v s).portB = s.portB ∧ (writeParameter i v s).forward = s.forward ∧
    (writeParameter i v s).cadence = s.cadence ∧ (writeParameter i v s).node = s.node ∧
    (writeParameter i v s).requests = s.requests ∧ (writeParameter i v s).uptime = s.uptime ∧
    (writeParameter i v s).draws = s.draws := by
  unfold writeParameter
  try dsimp only
  repeat' split
  all_goals simp

/-- `setExit` leaves everything but hazard, solver, notices, counters as it was. -/
@[simp] theorem setExit_frame (e : Nat) (c : Bool) (b : Nat) (s : State) :
    (setExit e c b s).pending = s.pending ∧ (setExit e c b s).inReset = s.inReset ∧ (setExit e c b s).tables = s.tables ∧
    (setExit e c b s).layout = s.layout ∧ (setExit e c b s).validation = s.validation ∧ (setExit e c b s).store = s.store ∧
    (setExit e c b s).signs = s.signs ∧ (setExit e c b s).boundaries = s.boundaries ∧ (setExit e c b s).mode = s.mode ∧
    (setExit e c b s).portA = s.portA ∧ (setExit e c b s).portB = s.portB ∧ (setExit e c b s).forward = s.forward ∧
    (setExit e c b s).cadence = s.cadence ∧ (setExit e c b s).node = s.node ∧ (setExit e c b s).requests = s.requests ∧
    (setExit e c b s).captures = s.captures ∧ (setExit e c b s).uptime = s.uptime ∧ (setExit e c b s).draws = s.draws := by
  unfold setExit
  try dsimp only
  repeat' split
  all_goals simp

/-- `updateCauses` leaves everything but notices as it was. -/
@[simp] theorem updateCauses_frame (f : Nat → CauseRec → CauseRec) (s : State) :
    (updateCauses f s).pending = s.pending ∧ (updateCauses f s).inReset = s.inReset ∧ (updateCauses f s).tables = s.tables ∧
    (updateCauses f s).layout = s.layout ∧ (updateCauses f s).validation = s.validation ∧ (updateCauses f s).store = s.store ∧
    (updateCauses f s).hazard = s.hazard ∧ (updateCauses f s).solver = s.solver ∧ (updateCauses f s).signs = s.signs ∧
    (updateCauses f s).boundaries = s.boundaries ∧ (updateCauses f s).mode = s.mode ∧ (updateCauses f s).portA = s.portA ∧
    (updateCauses f s).portB = s.portB ∧ (updateCauses f s).forward = s.forward ∧ (updateCauses f s).cadence = s.cadence ∧
    (updateCauses f s).node = s.node ∧ (updateCauses f s).requests = s.requests ∧ (updateCauses f s).captures = s.captures ∧
    (updateCauses f s).counters = s.counters ∧ (updateCauses f s).uptime = s.uptime ∧ (updateCauses f s).draws = s.draws := by
  simp [updateCauses]

/-- `setEnables` leaves everything but notices as it was. -/
@[simp] theorem setEnables_frame (m : Bool) (n : Nat) (s : State) :
    (setEnables m n s).pending = s.pending ∧ (setEnables m n s).inReset = s.inReset ∧ (setEnables m n s).tables = s.tables ∧
    (setEnables m n s).layout = s.layout ∧ (setEnables m n s).validation = s.validation ∧ (setEnables m n s).store = s.store ∧
    (setEnables m n s).hazard = s.hazard ∧ (setEnables m n s).solver = s.solver ∧ (setEnables m n s).signs = s.signs ∧
    (setEnables m n s).boundaries = s.boundaries ∧ (setEnables m n s).mode = s.mode ∧ (setEnables m n s).portA = s.portA ∧
    (setEnables m n s).portB = s.portB ∧ (setEnables m n s).forward = s.forward ∧ (setEnables m n s).cadence = s.cadence ∧
    (setEnables m n s).node = s.node ∧ (setEnables m n s).requests = s.requests ∧ (setEnables m n s).captures = s.captures ∧
    (setEnables m n s).counters = s.counters ∧ (setEnables m n s).uptime = s.uptime ∧ (setEnables m n s).draws = s.draws := by
  simp [setEnables]

/-- `setFrozen` leaves everything but counters as it was. -/
@[simp] theorem setFrozen_frame (b : Bool) (s : State) :
    (setFrozen b s).pending = s.pending ∧ (setFrozen b s).inReset = s.inReset ∧ (setFrozen b s).tables = s.tables ∧
    (setFrozen b s).layout = s.layout ∧ (setFrozen b s).validation = s.validation ∧ (setFrozen b s).store = s.store ∧
    (setFrozen b s).hazard = s.hazard ∧ (setFrozen b s).solver = s.solver ∧ (setFrozen b s).signs = s.signs ∧
    (setFrozen b s).boundaries = s.boundaries ∧ (setFrozen b s).mode = s.mode ∧ (setFrozen b s).portA = s.portA ∧
    (setFrozen b s).portB = s.portB ∧ (setFrozen b s).forward = s.forward ∧ (setFrozen b s).cadence = s.cadence ∧
    (setFrozen b s).node = s.node ∧ (setFrozen b s).requests = s.requests ∧ (setFrozen b s).notices = s.notices ∧
    (setFrozen b s).captures = s.captures ∧ (setFrozen b s).uptime = s.uptime ∧ (setFrozen b s).draws = s.draws := by
  exact ⟨rfl, rfl, rfl, rfl, rfl, rfl, rfl, rfl, rfl, rfl, rfl, rfl, rfl, rfl, rfl, rfl, rfl, rfl, rfl, rfl, rfl⟩

/-- `updateCounters` leaves everything but counters as it was. -/
@[simp] theorem updateCounters_frame (f : Counter → Counter) (s : State) :
    (updateCounters f s).pending = s.pending ∧ (updateCounters f s).inReset = s.inReset ∧ (updateCounters f s).tables = s.tables ∧
    (updateCounters f s).layout = s.layout ∧ (updateCounters f s).validation = s.validation ∧
    (updateCounters f s).store = s.store ∧ (updateCounters f s).hazard = s.hazard ∧ (updateCounters f s).solver = s.solver ∧
    (updateCounters f s).signs = s.signs ∧ (updateCounters f s).boundaries = s.boundaries ∧ (updateCounters f s).mode = s.mode ∧
    (updateCounters f s).portA = s.portA ∧ (updateCounters f s).portB = s.portB ∧ (updateCounters f s).forward = s.forward ∧
    (updateCounters f s).cadence = s.cadence ∧ (updateCounters f s).node = s.node ∧ (updateCounters f s).requests = s.requests ∧
    (updateCounters f s).notices = s.notices ∧ (updateCounters f s).captures = s.captures ∧
    (updateCounters f s).uptime = s.uptime ∧ (updateCounters f s).draws = s.draws := by
  simp [updateCounters]

/-- `beginLoad` leaves everything but layout, store, solver, signs, boundaries, notices, counters as it was. -/
@[simp] theorem beginLoad_frame (s : State) :
    (beginLoad s).pending = s.pending ∧ (beginLoad s).inReset = s.inReset ∧ (beginLoad s).tables = s.tables ∧
    (beginLoad s).validation = s.validation ∧ (beginLoad s).hazard = s.hazard ∧ (beginLoad s).mode = s.mode ∧
    (beginLoad s).portA = s.portA ∧ (beginLoad s).portB = s.portB ∧ (beginLoad s).forward = s.forward ∧
    (beginLoad s).cadence = s.cadence ∧ (beginLoad s).node = s.node ∧ (beginLoad s).requests = s.requests ∧
    (beginLoad s).captures = s.captures ∧ (beginLoad s).uptime = s.uptime ∧ (beginLoad s).draws = s.draws := by
  unfold beginLoad
  try dsimp only
  repeat' split
  all_goals simp

/-- `dropResponse` leaves everything but requests as it was. -/
@[simp] theorem dropResponse_frame (s : State) :
    (dropResponse s).pending = s.pending ∧ (dropResponse s).inReset = s.inReset ∧ (dropResponse s).tables = s.tables ∧
    (dropResponse s).layout = s.layout ∧ (dropResponse s).validation = s.validation ∧ (dropResponse s).store = s.store ∧
    (dropResponse s).hazard = s.hazard ∧ (dropResponse s).solver = s.solver ∧ (dropResponse s).signs = s.signs ∧
    (dropResponse s).boundaries = s.boundaries ∧ (dropResponse s).mode = s.mode ∧ (dropResponse s).portA = s.portA ∧
    (dropResponse s).portB = s.portB ∧ (dropResponse s).forward = s.forward ∧ (dropResponse s).cadence = s.cadence ∧
    (dropResponse s).node = s.node ∧ (dropResponse s).notices = s.notices ∧ (dropResponse s).captures = s.captures ∧
    (dropResponse s).counters = s.counters ∧ (dropResponse s).uptime = s.uptime ∧ (dropResponse s).draws = s.draws := by
  unfold dropResponse
  try dsimp only
  repeat' split
  all_goals simp

/-- `dropOwn` leaves everything but signs, boundaries, forward, requests as it was. -/
@[simp] theorem dropOwn_frame (s : State) :
    (dropOwn s).pending = s.pending ∧ (dropOwn s).inReset = s.inReset ∧ (dropOwn s).tables = s.tables ∧
    (dropOwn s).layout = s.layout ∧ (dropOwn s).validation = s.validation ∧ (dropOwn s).store = s.store ∧
    (dropOwn s).hazard = s.hazard ∧ (dropOwn s).solver = s.solver ∧ (dropOwn s).mode = s.mode ∧ (dropOwn s).portA = s.portA ∧
    (dropOwn s).portB = s.portB ∧ (dropOwn s).cadence = s.cadence ∧ (dropOwn s).node = s.node ∧ (dropOwn s).notices = s.notices ∧
    (dropOwn s).captures = s.captures ∧ (dropOwn s).counters = s.counters ∧ (dropOwn s).uptime = s.uptime ∧
    (dropOwn s).draws = s.draws := by
  simp [dropOwn]

/-- `changeAddress` leaves everything but signs, boundaries, forward, cadence, node, requests as it was. -/
@[simp] theorem changeAddress_frame (n : Nat) (s : State) :
    (changeAddress n s).pending = s.pending ∧ (changeAddress n s).inReset = s.inReset ∧ (changeAddress n s).tables = s.tables ∧
    (changeAddress n s).layout = s.layout ∧ (changeAddress n s).validation = s.validation ∧ (changeAddress n s).store = s.store ∧
    (changeAddress n s).hazard = s.hazard ∧ (changeAddress n s).solver = s.solver ∧ (changeAddress n s).mode = s.mode ∧
    (changeAddress n s).portA = s.portA ∧ (changeAddress n s).portB = s.portB ∧ (changeAddress n s).notices = s.notices ∧
    (changeAddress n s).captures = s.captures ∧ (changeAddress n s).counters = s.counters ∧
    (changeAddress n s).uptime = s.uptime ∧ (changeAddress n s).draws = s.draws := by
  unfold changeAddress
  try dsimp only
  repeat' split
  all_goals simp

/-- `endStartWait` leaves everything but mode as it was. -/
@[simp] theorem endStartWait_frame (m : Mode) (s : State) :
    (endStartWait m s).pending = s.pending ∧ (endStartWait m s).inReset = s.inReset ∧ (endStartWait m s).tables = s.tables ∧
    (endStartWait m s).layout = s.layout ∧ (endStartWait m s).validation = s.validation ∧ (endStartWait m s).store = s.store ∧
    (endStartWait m s).hazard = s.hazard ∧ (endStartWait m s).solver = s.solver ∧ (endStartWait m s).signs = s.signs ∧
    (endStartWait m s).boundaries = s.boundaries ∧ (endStartWait m s).portA = s.portA ∧ (endStartWait m s).portB = s.portB ∧
    (endStartWait m s).forward = s.forward ∧ (endStartWait m s).cadence = s.cadence ∧ (endStartWait m s).node = s.node ∧
    (endStartWait m s).requests = s.requests ∧ (endStartWait m s).notices = s.notices ∧ (endStartWait m s).captures = s.captures ∧
    (endStartWait m s).counters = s.counters ∧ (endStartWait m s).uptime = s.uptime ∧ (endStartWait m s).draws = s.draws := by
  exact ⟨rfl, rfl, rfl, rfl, rfl, rfl, rfl, rfl, rfl, rfl, rfl, rfl, rfl, rfl, rfl, rfl, rfl, rfl, rfl, rfl, rfl⟩

/-- `takeHeldEvac` leaves everything but layout, store, solver, signs, mode, cadence, notices, captures, counters, draws as it was. -/
@[simp] theorem takeHeldEvac_frame (s : State) :
    (takeHeldEvac s).pending = s.pending ∧ (takeHeldEvac s).inReset = s.inReset ∧ (takeHeldEvac s).tables = s.tables ∧
    (takeHeldEvac s).validation = s.validation ∧ (takeHeldEvac s).hazard = s.hazard ∧ (takeHeldEvac s).boundaries = s.boundaries ∧
    (takeHeldEvac s).portA = s.portA ∧ (takeHeldEvac s).portB = s.portB ∧ (takeHeldEvac s).forward = s.forward ∧
    (takeHeldEvac s).node = s.node ∧ (takeHeldEvac s).requests = s.requests ∧ (takeHeldEvac s).uptime = s.uptime := by
  unfold takeHeldEvac
  try dsimp only
  repeat' split
  all_goals simp

/-- `takeZoneState` leaves everything but layout, store, solver, signs, mode, cadence, notices, captures, counters, draws as it was. -/
@[simp] theorem takeZoneState_frame (s : State) (z : Nat) :
    (takeZoneState s z).pending = s.pending ∧ (takeZoneState s z).inReset = s.inReset ∧ (takeZoneState s z).tables = s.tables ∧
    (takeZoneState s z).validation = s.validation ∧ (takeZoneState s z).hazard = s.hazard ∧
    (takeZoneState s z).boundaries = s.boundaries ∧ (takeZoneState s z).portA = s.portA ∧ (takeZoneState s z).portB = s.portB ∧
    (takeZoneState s z).forward = s.forward ∧ (takeZoneState s z).node = s.node ∧ (takeZoneState s z).requests = s.requests ∧
    (takeZoneState s z).uptime = s.uptime := by
  unfold takeZoneState
  try dsimp only
  repeat' split
  all_goals simp

/-- `takeStartCauses` leaves everything but layout, store, solver, signs, mode, cadence, notices, captures, counters, draws as it was. -/
@[simp] theorem takeStartCauses_frame (s : State) :
    (takeStartCauses s).pending = s.pending ∧ (takeStartCauses s).inReset = s.inReset ∧ (takeStartCauses s).tables = s.tables ∧
    (takeStartCauses s).validation = s.validation ∧ (takeStartCauses s).hazard = s.hazard ∧
    (takeStartCauses s).boundaries = s.boundaries ∧ (takeStartCauses s).portA = s.portA ∧ (takeStartCauses s).portB = s.portB ∧
    (takeStartCauses s).forward = s.forward ∧ (takeStartCauses s).node = s.node ∧ (takeStartCauses s).requests = s.requests ∧
    (takeStartCauses s).uptime = s.uptime := by
  unfold takeStartCauses
  exact ⟨by simp [foldl_field State.pending takeZoneState (by simp)],
    by simp [foldl_field State.inReset takeZoneState (by simp)], by simp [foldl_field State.tables takeZoneState (by simp)],
    by simp [foldl_field State.validation takeZoneState (by simp)],
    by simp [foldl_field State.hazard takeZoneState (by simp)],
    by simp [foldl_field State.boundaries takeZoneState (by simp)],
    by simp [foldl_field State.portA takeZoneState (by simp)], by simp [foldl_field State.portB takeZoneState (by simp)],
    by simp [foldl_field State.forward takeZoneState (by simp)], by simp [foldl_field State.node takeZoneState (by simp)],
    by simp [foldl_field State.requests takeZoneState (by simp)], by simp [foldl_field State.uptime takeZoneState (by simp)]⟩

/-- `startUpTables` leaves everything but tables, layout, store, hazard, solver, signs, boundaries as it was. -/
@[simp] theorem startUpTables_frame (v : Bool) (s : State) :
    (startUpTables v s).pending = s.pending ∧ (startUpTables v s).inReset = s.inReset ∧
    (startUpTables v s).validation = s.validation ∧ (startUpTables v s).mode = s.mode ∧ (startUpTables v s).portA = s.portA ∧
    (startUpTables v s).portB = s.portB ∧ (startUpTables v s).forward = s.forward ∧ (startUpTables v s).cadence = s.cadence ∧
    (startUpTables v s).node = s.node ∧ (startUpTables v s).requests = s.requests ∧ (startUpTables v s).notices = s.notices ∧
    (startUpTables v s).captures = s.captures ∧ (startUpTables v s).counters = s.counters ∧
    (startUpTables v s).uptime = s.uptime ∧ (startUpTables v s).draws = s.draws := by
  unfold startUpTables
  try dsimp only
  repeat' split
  all_goals simp

/-- `solverRestart` leaves everything but solver as it was. -/
@[simp] theorem solverRestart_frame (s : State) :
    (solverRestart s).pending = s.pending ∧ (solverRestart s).inReset = s.inReset ∧ (solverRestart s).tables = s.tables ∧
    (solverRestart s).layout = s.layout ∧ (solverRestart s).validation = s.validation ∧ (solverRestart s).store = s.store ∧
    (solverRestart s).hazard = s.hazard ∧ (solverRestart s).signs = s.signs ∧ (solverRestart s).boundaries = s.boundaries ∧
    (solverRestart s).mode = s.mode ∧ (solverRestart s).portA = s.portA ∧ (solverRestart s).portB = s.portB ∧
    (solverRestart s).forward = s.forward ∧ (solverRestart s).cadence = s.cadence ∧ (solverRestart s).node = s.node ∧
    (solverRestart s).requests = s.requests ∧ (solverRestart s).notices = s.notices ∧ (solverRestart s).captures = s.captures ∧
    (solverRestart s).counters = s.counters ∧ (solverRestart s).uptime = s.uptime ∧ (solverRestart s).draws = s.draws := by
  unfold solverRestart
  try dsimp only
  repeat' split
  all_goals simp

/-- `boundariesRestart` leaves everything but boundaries as it was. -/
@[simp] theorem boundariesRestart_frame (s : State) :
    (boundariesRestart s).pending = s.pending ∧ (boundariesRestart s).inReset = s.inReset ∧
    (boundariesRestart s).tables = s.tables ∧ (boundariesRestart s).layout = s.layout ∧
    (boundariesRestart s).validation = s.validation ∧ (boundariesRestart s).store = s.store ∧
    (boundariesRestart s).hazard = s.hazard ∧ (boundariesRestart s).solver = s.solver ∧ (boundariesRestart s).signs = s.signs ∧
    (boundariesRestart s).mode = s.mode ∧ (boundariesRestart s).portA = s.portA ∧ (boundariesRestart s).portB = s.portB ∧
    (boundariesRestart s).forward = s.forward ∧ (boundariesRestart s).cadence = s.cadence ∧ (boundariesRestart s).node = s.node ∧
    (boundariesRestart s).requests = s.requests ∧ (boundariesRestart s).notices = s.notices ∧
    (boundariesRestart s).captures = s.captures ∧ (boundariesRestart s).counters = s.counters ∧
    (boundariesRestart s).uptime = s.uptime ∧ (boundariesRestart s).draws = s.draws := by
  simp [boundariesRestart]

/-- `loopRestart` leaves everything but hazard, portA, portB, forward, cadence, node as it was. -/
@[simp] theorem loopRestart_frame (s : State) :
    (loopRestart s).pending = s.pending ∧ (loopRestart s).inReset = s.inReset ∧ (loopRestart s).tables = s.tables ∧
    (loopRestart s).layout = s.layout ∧ (loopRestart s).validation = s.validation ∧ (loopRestart s).store = s.store ∧
    (loopRestart s).solver = s.solver ∧ (loopRestart s).signs = s.signs ∧ (loopRestart s).boundaries = s.boundaries ∧
    (loopRestart s).mode = s.mode ∧ (loopRestart s).requests = s.requests ∧ (loopRestart s).notices = s.notices ∧
    (loopRestart s).captures = s.captures ∧ (loopRestart s).counters = s.counters ∧ (loopRestart s).uptime = s.uptime ∧
    (loopRestart s).draws = s.draws := by
  simp [loopRestart]

/-- `noticesRestart` leaves everything but notices as it was. -/
@[simp] theorem noticesRestart_frame (s : State) :
    (noticesRestart s).pending = s.pending ∧ (noticesRestart s).inReset = s.inReset ∧ (noticesRestart s).tables = s.tables ∧
    (noticesRestart s).layout = s.layout ∧ (noticesRestart s).validation = s.validation ∧ (noticesRestart s).store = s.store ∧
    (noticesRestart s).hazard = s.hazard ∧ (noticesRestart s).solver = s.solver ∧ (noticesRestart s).signs = s.signs ∧
    (noticesRestart s).boundaries = s.boundaries ∧ (noticesRestart s).mode = s.mode ∧ (noticesRestart s).portA = s.portA ∧
    (noticesRestart s).portB = s.portB ∧ (noticesRestart s).forward = s.forward ∧ (noticesRestart s).cadence = s.cadence ∧
    (noticesRestart s).node = s.node ∧ (noticesRestart s).requests = s.requests ∧ (noticesRestart s).captures = s.captures ∧
    (noticesRestart s).counters = s.counters ∧ (noticesRestart s).uptime = s.uptime ∧ (noticesRestart s).draws = s.draws := by
  simp [noticesRestart]

/-- `restartRouter` leaves everything but hazard, solver, signs, boundaries, portA, portB, forward, cadence, node, requests, notices, counters as it was. -/
@[simp] theorem restartRouter_frame (e : ReqEntry) (s : State) :
    (restartRouter e s).pending = s.pending ∧ (restartRouter e s).inReset = s.inReset ∧ (restartRouter e s).tables = s.tables ∧
    (restartRouter e s).layout = s.layout ∧ (restartRouter e s).validation = s.validation ∧ (restartRouter e s).store = s.store ∧
    (restartRouter e s).mode = s.mode ∧ (restartRouter e s).captures = s.captures ∧ (restartRouter e s).uptime = s.uptime ∧
    (restartRouter e s).draws = s.draws := by
  simp [restartRouter]

end Sys2Proof.Machine
end

