-- ==== Sys2Proof/Laws/Tab.lean ====
section
/-! SUPPORT. Tables as lists of (index, entry) pairs: what a read after a write gives, and that every table operation keeps the canonical
form. -/

namespace Sys2Proof.Machine

variable {α : Type}

/-- Every listed index is above `n`. -/
def Tab.above (n : Nat) (t : Tab α) : Prop := ∀ p ∈ t, n < p.1

/-- An index below every listed one reads as the empty value. -/
theorem Tab.read_of_above (d : α) (t : Tab α) (n i : Nat) (h : Tab.above n t) (hi : i ≤ n) : Tab.read d t i = d := by
  induction t with
  | nil => rfl
  | cons p t ih =>
    obtain ⟨k, v⟩ := p
    have hk : n < k := h (k, v) (by simp)
    have ht : Tab.above n t := fun q hq => h q (by simp [hq])
    have hne : k ≠ i := by omega
    simp [Tab.read, hne, ih ht]

variable [DecidableEq α]

/-- The canonical form, unfolded one entry. -/
theorem Tab.wf_cons (d : α) (k : Nat) (v : α) (t : Tab α) :
    Tab.wf d ((k, v) :: t) = true ↔ v ≠ d ∧ Tab.above k t ∧ Tab.wf d t = true := by
  simp [Tab.wf, Tab.above, and_assoc]

/-- The empty table is in canonical form. -/
@[simp] theorem Tab.wf_nil (d : α) : Tab.wf d ([] : Tab α) = true := rfl

/-- A write below an index puts no index at or below it beyond the one written. -/
theorem Tab.above_write (d : α) (t : Tab α) (n i : Nat) (v : α) (h : Tab.above n t) (hi : n < i) :
    Tab.above n (Tab.write d t i v) := by
  induction t with
  | nil =>
    simp only [Tab.write]
    split <;> intro p hp <;> simp at hp
    simpa [hp] using hi
  | cons p t ih =>
    obtain ⟨k, w⟩ := p
    have hk : n < k := h (k, w) (by simp)
    have ht : Tab.above n t := fun q hq => h q (by simp [hq])
    simp only [Tab.write]
    split
    · split
      · exact h
      · intro q hq
        simp at hq
        rcases hq with rfl | rfl | hq
        · exact hi
        · exact hk
        · exact ht q hq
    · split
      · split
        · exact ht
        · intro q hq
          simp at hq
          rcases hq with rfl | hq
          · exact hi
          · exact ht q hq
      · intro q hq
        simp at hq
        rcases hq with rfl | hq
        · exact hk
        · exact ih ht q hq

/-- A write keeps the canonical form. -/
theorem Tab.wf_write (d : α) (t : Tab α) (i : Nat) (v : α) (h : Tab.wf d t = true) : Tab.wf d (Tab.write d t i v) = true := by
  induction t with
  | nil =>
    simp only [Tab.write]
    split
    · rfl
    · next hv => simp [Tab.wf, hv]
  | cons p t ih =>
    obtain ⟨k, w⟩ := p
    obtain ⟨hw, ha, ht⟩ := (Tab.wf_cons d k w t).1 h
    simp only [Tab.write]
    split
    · next hik =>
      split
      · exact h
      · next hv =>
        refine (Tab.wf_cons d i v _).2 ⟨hv, ?_, h⟩
        intro q hq
        simp at hq
        rcases hq with rfl | hq
        · exact hik
        · exact Nat.lt_trans hik (ha q hq)
    · split
      · next hik hie =>
        split
        · exact ht
        · next hv => exact (Tab.wf_cons d i v t).2 ⟨hv, by subst hie; exact ha, ht⟩
      · next hik hie =>
        exact (Tab.wf_cons d k w _).2 ⟨hw, Tab.above_write d t k i v ha (by omega), ih ht⟩

/-- The index written reads as the value written. -/
theorem Tab.read_write_same (d : α) (t : Tab α) (i : Nat) (v : α) (h : Tab.wf d t = true) :
    Tab.read d (Tab.write d t i v) i = v := by
  induction t with
  | nil =>
    simp only [Tab.write]
    split
    · next hv => simp [Tab.read, hv]
    · simp [Tab.read]
  | cons p t ih =>
    obtain ⟨k, w⟩ := p
    obtain ⟨_, ha, ht⟩ := (Tab.wf_cons d k w t).1 h
    simp only [Tab.write]
    split
    · next hik =>
      split
      · next hv =>
        have hne : k ≠ i := by omega
        simp only [Tab.read, hne, if_false]
        rw [Tab.read_of_above d t k i ha (by omega), hv]
      · simp [Tab.read]
    · split
      · next hik hie =>
        split
        · next hv => rw [Tab.read_of_above d t k i ha (by omega), hv]
        · simp [Tab.read]
      · next hik hie =>
        have hne : k ≠ i := by omega
        simp [Tab.read, hne, ih ht]

/-- Every other index reads as before. -/
theorem Tab.read_write_other (d : α) (t : Tab α) (i j : Nat) (v : α) (h : Tab.wf d t = true) (hij : j ≠ i) :
    Tab.read d (Tab.write d t i v) j = Tab.read d t j := by
  induction t with
  | nil =>
    simp only [Tab.write]
    split
    · rfl
    · have : i ≠ j := fun e => hij e.symm
      simp [Tab.read, this]
  | cons p t ih =>
    obtain ⟨k, w⟩ := p
    obtain ⟨_, ha, ht⟩ := (Tab.wf_cons d k w t).1 h
    have hij' : i ≠ j := fun e => hij e.symm
    simp only [Tab.write]
    split
    · split
      · rfl
      · simp [Tab.read, hij']
    · split
      · next hik hie =>
        subst hie
        split
        · simp [Tab.read, hij']
        · simp [Tab.read, hij']
      · by_cases hk : k = j
        · simp [Tab.read, hk]
        · simp [Tab.read, hk, ih ht]

/-- The rewriting of the first `n` entries keeps the canonical form. -/
theorem Tab.wf_updateAll (d : α) (n : Nat) (f : Nat → α → α) (t : Tab α) (h : Tab.wf d t = true) :
    Tab.wf d (Tab.updateAll d n f t) = true := by
  unfold Tab.updateAll
  generalize List.range n = l
  induction l generalizing t with
  | nil => exact h
  | cons a l ih => exact ih _ (Tab.wf_write d t a _ h)

/-- The rewriting of the entries of a list of indices, read at one index. -/
theorem Tab.read_foldl_write (d : α) (f : Nat → α → α) (l : List Nat) (hl : l.Nodup) (t : Tab α) (h : Tab.wf d t = true) (i : Nat) :
    Tab.read d (l.foldl (fun t i => Tab.write d t i (f i (Tab.read d t i))) t) i =
      if i ∈ l then f i (Tab.read d t i) else Tab.read d t i := by
  induction l generalizing t with
  | nil => simp
  | cons a l ih =>
    have hn := (List.nodup_cons.1 hl)
    simp only [List.foldl_cons]
    rw [ih hn.2 _ (Tab.wf_write d t a _ h)]
    by_cases hia : i = a
    · subst hia
      simp [hn.1, Tab.read_write_same d t i _ h]
    · simp [hia, Tab.read_write_other d t a i _ h hia]

/-- After the rewriting of the first `n` entries, an index below `n` reads as its rewritten entry, and any other as before. -/
theorem Tab.read_updateAll (d : α) (n : Nat) (f : Nat → α → α) (t : Tab α) (h : Tab.wf d t = true) (i : Nat) :
    Tab.read d (Tab.updateAll d n f t) i = if i < n then f i (Tab.read d t i) else Tab.read d t i := by
  unfold Tab.updateAll
  rw [Tab.read_foldl_write d f (List.range n) (List.nodup_range) t h i]
  simp [List.mem_range]

end Sys2Proof.Machine
end

