-- ==== Sys2Proof/Laws/Reads.lean ====
section
/-! SUPPORT. What is read after a record is written or a cause latched, and what a request row does with the entry at the head of the
queue: the lemmas that a proof about a meaning cites instead of unfolding `Tab.write`, `latch` and `request`. What each check of a
validation asks of an entry. -/

namespace Sys2Proof.Machine

/-- The zone runtime record written is read back. -/
theorem zoneRt_setZoneRt_same (s : State) (i : Nat) (r : ZoneRt) (h : Tab.wf ZoneRt.reset s.hazard.zones = true) :
    zoneRt (setZoneRt s i r) i = r := Tab.read_write_same _ _ _ _ h

/-- Every other zone runtime record reads as before. -/
theorem zoneRt_setZoneRt_other (s : State) (i j : Nat) (r : ZoneRt) (h : Tab.wf ZoneRt.reset s.hazard.zones = true) (hj : j ≠ i) :
    zoneRt (setZoneRt s i r) j = zoneRt s j := Tab.read_write_other _ _ _ _ _ h hj

/-- Writing a zone runtime record keeps the canonical form of its array. -/
theorem setZoneRt_wf (s : State) (i : Nat) (r : ZoneRt) (h : Tab.wf ZoneRt.reset s.hazard.zones = true) :
    Tab.wf ZoneRt.reset (setZoneRt s i r).hazard.zones = true := Tab.wf_write _ _ _ _ h

/-- The detector runtime record written is read back. -/
theorem detectorRt_setDetectorRt_same (s : State) (i : Nat) (r : DetectorRt) (h : Tab.wf DetectorRt.reset s.hazard.detectors = true) :
    detectorRt (setDetectorRt s i r) i = r := Tab.read_write_same _ _ _ _ h

/-- Every other detector runtime record reads as before. -/
theorem detectorRt_setDetectorRt_other (s : State) (i j : Nat) (r : DetectorRt) (h : Tab.wf DetectorRt.reset s.hazard.detectors = true) (hj : j ≠ i) :
    detectorRt (setDetectorRt s i r) j = detectorRt s j := Tab.read_write_other _ _ _ _ _ h hj

/-- Writing a detector runtime record keeps the canonical form of its array. -/
theorem setDetectorRt_wf (s : State) (i : Nat) (r : DetectorRt) (h : Tab.wf DetectorRt.reset s.hazard.detectors = true) :
    Tab.wf DetectorRt.reset (setDetectorRt s i r).hazard.detectors = true := Tab.wf_write _ _ _ _ h

/-- The exit runtime record written is read back. -/
theorem exitRt_setExitRt_same (s : State) (i : Nat) (r : ExitRt) (h : Tab.wf ExitRt.reset s.hazard.exits = true) :
    exitRt (setExitRt s i r) i = r := Tab.read_write_same _ _ _ _ h

/-- Every other exit runtime record reads as before. -/
theorem exitRt_setExitRt_other (s : State) (i j : Nat) (r : ExitRt) (h : Tab.wf ExitRt.reset s.hazard.exits = true) (hj : j ≠ i) :
    exitRt (setExitRt s i r) j = exitRt s j := Tab.read_write_other _ _ _ _ _ h hj

/-- Writing a exit runtime record keeps the canonical form of its array. -/
theorem setExitRt_wf (s : State) (i : Nat) (r : ExitRt) (h : Tab.wf ExitRt.reset s.hazard.exits = true) :
    Tab.wf ExitRt.reset (setExitRt s i r).hazard.exits = true := Tab.wf_write _ _ _ _ h

/-- The sign runtime record written is read back. -/
theorem signRt_setSignRt_same (s : State) (i : Nat) (r : SignRt) (h : Tab.wf SignRt.reset s.signs.records = true) :
    signRt (setSignRt s i r) i = r := Tab.read_write_same _ _ _ _ h

/-- Every other sign runtime record reads as before. -/
theorem signRt_setSignRt_other (s : State) (i j : Nat) (r : SignRt) (h : Tab.wf SignRt.reset s.signs.records = true) (hj : j ≠ i) :
    signRt (setSignRt s i r) j = signRt s j := Tab.read_write_other _ _ _ _ _ h hj

/-- Writing a sign runtime record keeps the canonical form of its array. -/
theorem setSignRt_wf (s : State) (i : Nat) (r : SignRt) (h : Tab.wf SignRt.reset s.signs.records = true) :
    Tab.wf SignRt.reset (setSignRt s i r).signs.records = true := Tab.wf_write _ _ _ _ h

/-- The boundary runtime record written is read back. -/
theorem boundaryRt_setBoundaryRt_same (s : State) (i : Nat) (r : BoundaryRt) (h : Tab.wf BoundaryRt.reset s.boundaries.records = true) :
    boundaryRt (setBoundaryRt s i r) i = r := Tab.read_write_same _ _ _ _ h

/-- Every other boundary runtime record reads as before. -/
theorem boundaryRt_setBoundaryRt_other (s : State) (i j : Nat) (r : BoundaryRt) (h : Tab.wf BoundaryRt.reset s.boundaries.records = true) (hj : j ≠ i) :
    boundaryRt (setBoundaryRt s i r) j = boundaryRt s j := Tab.read_write_other _ _ _ _ _ h hj

/-- Writing a boundary runtime record keeps the canonical form of its array. -/
theorem setBoundaryRt_wf (s : State) (i : Nat) (r : BoundaryRt) (h : Tab.wf BoundaryRt.reset s.boundaries.records = true) :
    Tab.wf BoundaryRt.reset (setBoundaryRt s i r).boundaries.records = true := Tab.wf_write _ _ _ _ h

/-- The counter written is read back. -/
theorem counterAt_setCounter_same (s : State) (i : Nat) (r : Counter) (h : Tab.wf Counter.reset s.counters.table = true) :
    counterAt (setCounter s i r) i = r := Tab.read_write_same _ _ _ _ h

/-- Every other counter reads as before. -/
theorem counterAt_setCounter_other (s : State) (i j : Nat) (r : Counter) (h : Tab.wf Counter.reset s.counters.table = true) (hj : j ≠ i) :
    counterAt (setCounter s i r) j = counterAt s j := Tab.read_write_other _ _ _ _ _ h hj

/-- Writing a counter keeps the canonical form of its array. -/
theorem setCounter_wf (s : State) (i : Nat) (r : Counter) (h : Tab.wf Counter.reset s.counters.table = true) :
    Tab.wf Counter.reset (setCounter s i r).counters.table = true := Tab.wf_write _ _ _ _ h

/-- The cause latched has its latch set and its detail replaced, its enable flag kept (R176). -/
theorem causeRec_latch_same (c : Cause) (d : Nat) (s : State) (h : Tab.wf CauseRec.reset s.notices.causes = true) :
    causeRec (latch c d s) (causeNumber c) = { causeRec s (causeNumber c) with latched := true, detail := d } :=
  Tab.read_write_same _ _ _ _ h

/-- Latching a cause leaves every other cause as it was. -/
theorem causeRec_latch_other (c : Cause) (d n : Nat) (s : State) (h : Tab.wf CauseRec.reset s.notices.causes = true)
    (hn : n ≠ causeNumber c) : causeRec (latch c d s) n = causeRec s n := Tab.read_write_other _ _ _ _ _ h hn

/-- Latching keeps the canonical form of the causes. -/
theorem latch_wf (c : Cause) (d : Nat) (s : State) (h : Tab.wf CauseRec.reset s.notices.causes = true) :
    Tab.wf CauseRec.reset (latch c d s).notices.causes = true := Tab.wf_write _ _ _ _ h

/-- The parts of the canonical form. -/
theorem State.canonical_iff (s : State) : s.canonical = true ↔
    s.tables.wf = true ∧ s.store.image.wf = true ∧ Tab.wf DetectorRt.reset s.hazard.detectors = true ∧
    Tab.wf ZoneRt.reset s.hazard.zones = true ∧ Tab.wf ExitRt.reset s.hazard.exits = true ∧
    Tab.wf SignRt.reset s.signs.records = true ∧ Tab.wf BoundaryRt.reset s.boundaries.records = true ∧
    Tab.wf CauseRec.reset s.notices.causes = true ∧ Tab.wf Counter.reset s.counters.table = true := by
  simp only [State.canonical, Bool.and_eq_true]
  exact ⟨fun ⟨⟨⟨⟨⟨⟨⟨⟨a, b⟩, c⟩, d⟩, e⟩, f⟩, g⟩, i⟩, j⟩ => ⟨a, b, c, d, e, f, g, i, j⟩,
    fun ⟨a, b, c, d, e, f, g, i, j⟩ => ⟨⟨⟨⟨⟨⟨⟨⟨a, b⟩, c⟩, d⟩, e⟩, f⟩, g⟩, i⟩, j⟩⟩

/-- The running router's step is its effect and the end of the step; a router held in reset stays as it is. -/
theorem run_running (s : State) (f : State → State) (h : s.inReset = false) : run s f = .next (settle s (f s)) := by
  simp [run, h]

/-- A router held in reset stays as it is. -/
theorem run_inReset (s : State) (f : State → State) (h : s.inReset = true) : run s f = .next s := by
  simp [run, h]

/-- The head entry that a row begins is the one it executes (R165). -/
theorem beginning_of_begins {row : ReqRow} {e : ReqEntry} {s : State} (h : Begins row e s) : beginning row s = some e := by
  obtain ⟨_, hf, hq, hr⟩ := h
  unfold beginning
  cases hs : s.requests.queue with
  | nil => simp [hs] at hq
  | cons x rest =>
    have hx : x = e := by simpa [hs] using hq
    subst hx
    simp [hf, hr]

/-- A request row that begins the head entry executes it by its body and ends the execution: the one lemma about every request. -/
theorem run_request {row : ReqRow} {e : ReqEntry} {s : State} (body : ReqEntry → State → Answer) (h : Begins row e s) :
    run s (request row body) = .next (settle s (finish e (body e s))) := by
  rw [run_running s _ h.1, request, beginning_of_begins h]

/-- Fields long enough go to the body (R167). -/
theorem needing_long {n : Nat} {body : List Byte → State → Answer} {e : ReqEntry} {s : State} (h : n ≤ (fieldsOf e).length) :
    needing n body e s = body (fieldsOf e) s := by
  simp [needing, Nat.not_lt.2 h]

/-- Fields too short are answered BAD_FIELD (R167). -/
theorem needing_short {n : Nat} {body : List Byte → State → Answer} {e : ReqEntry} {s : State} (h : (fieldsOf e).length < n) :
    needing n body e s = refuse .badField s := by
  simp [needing, h]

/-- The end of an execution moves the request handler alone. -/
theorem finish_frame (e : ReqEntry) (a : Answer) :
    finish e a = { a.state with requests := (finish e a).requests } := by
  unfold finish popHead
  split <;> rfl

/-- Check 2 of a place as R22 says it. -/
theorem okExit_iff (t : Tables) (i : Nat) : okExit t i = true ↔ entryPasses t 2 i := by
  unfold okExit entryPasses
  dsimp only
  split
  · next hk =>
    split
    · next hx => simp [hk, hx]
    · next x hx =>
      simp only [hk, hx, Bool.and_eq_true, List.all_eq_true, List.mem_range, Bool.not_eq_true', Bool.and_eq_false_iff,
        decide_eq_false_iff_not, ← Decidable.not_and_iff_not_or_not, forall_const, Option.some.injEq, exists_eq_left', ne_eq, not_and]
  · next hk => simp [hk]

/-- Check 3 of a place as R22 says it. -/
theorem okBoundaryPlace_iff (t : Tables) (i : Nat) : okBoundaryPlace t.layout i = true ↔ entryPasses t 3 i := by
  unfold okBoundaryPlace entryPasses
  dsimp only
  split
  · next hk =>
    split
    · next hx => simp [hk, hx]
    · next x hx => simp [hk, hx]
  · next hk => simp [hk]

/-- Check 4 of a place as R22 says it. -/
theorem okJunction_iff (t : Tables) (i : Nat) : okJunction t.layout i = true ↔ entryPasses t 4 i := by
  unfold okJunction entryPasses touches
  simp only [Bool.decide_or]
  split
  · next hk => simp [hk]
  · next hk => simp [hk]

/-- Check 5 of a passage as R22 says it. -/
theorem okPassage_iff (t : Tables) (p : Nat) : okPassage t p = true ↔ entryPasses t 5 p := by
  unfold okPassage entryPasses
  dsimp only
  simp only [Bool.and_eq_true, decide_eq_true_eq, and_assoc]
  cases (passageOf t.layout p).via <;> simp

/-- Check 6 of a boundary as R22 says it. -/
theorem okBoundary_iff (t : Tables) (b : Nat) : okBoundary t.layout b = true ↔ entryPasses t 6 b := by
  unfold okBoundary entryPasses
  dsimp only
  split
  · next hk =>
    simp only [hk, Bool.and_eq_true, decide_eq_true_eq, List.all_eq_true, List.mem_range, Bool.not_eq_true',
      ← Bool.not_eq_true, forall_const, and_assoc, ne_eq, not_and]
  · next hk => simp [hk]

/-- A face as check 7 asks it. -/
theorem okFace_iff (l : LayoutTables) (place : Nat) (w : Way) : okFace l place w = true ↔
    ((∃ p, w = .passage p ∧ p < l.header.passageCount ∧ ((passageOf l p).endA = place ∨ (passageOf l p).endB = place)) ∨
      (w = .crossing ∧ (placeOf l place).kind = .boundary)) := by
  unfold okFace touches
  cases w <;> simp

/-- Check 7 of a sign as R22 says it. -/
theorem okSign_iff (t : Tables) (i : Nat) : okSign t.layout i = true ↔ entryPasses t 7 i := by
  unfold okSign entryPasses
  simp only [Bool.and_eq_true, decide_eq_true_eq, List.all_eq_true, List.mem_range, Bool.not_eq_true', Bool.and_eq_false_iff,
    decide_eq_false_iff_not, ← Decidable.not_and_iff_not_or_not, okFace_iff, and_assoc]

end Sys2Proof.Machine
end

