-- ==== Sys2Proof/Tests/Slice0.lean ====
section
/-! SUPPORT. Small tests on small states: the refusals of the well-formedness check, one or two steps of each family, and for every
obligation with hypotheses a witness that meets them. -/

namespace Sys2Proof.Tests

open Sys2Proof Sys2Proof.Machine

/-! ### Small states -/

/-- A running router with address 5 and both ports up, in MAINT with no layout and empty tables. -/
def live : State :=
  { State.reset with
    inReset := false
    store := { State.reset.store with op := .idle }
    mode := { State.reset.mode with startWait := false }
    node := ⟨5, 5, none, 0⟩
    notices := ⟨[], false, none⟩
    portA := ⟨⟨.up, none, false⟩, ⟨.up, none, false⟩, .upDual, ⟨⟨2, 2, 2, 2⟩, 8⟩, [], []⟩
    portB := ⟨true, true, .upDual, ⟨⟨2, 2, 2, 2⟩, 8⟩, none⟩ }

/-- A hall of four places: an aisle whose sign stands there, a junction, an exit and a boundary, joined by three passages. -/
def hallTables : Tables :=
  { Tables.empty with
    zones := [(0, ⟨true, 2, false, true⟩), (1, ⟨true, 2, false, false⟩)]
    detectors := [(0, ⟨9, 0, 0, 1⟩), (1, ⟨9, 1, 1, 2⟩)]
    exits := [(0, ⟨true, 1, 10, 1, 1⟩)]
    layout :=
      { header := ⟨4, 3, 1⟩
        places := [(1, ⟨.junction, 0, none, none⟩), (2, ⟨.exit, 1, some 0, none⟩), (3, ⟨.boundary, 1, none, some 0⟩)]
        passages := [(0, ⟨0, 1, 5, .twoWay, none⟩), (1, ⟨1, 2, 5, .twoWay, none⟩), (2, ⟨1, 3, 9, .twoWay, none⟩)]
        signs := [(0, ⟨200, 0, 0, [.passage 0], 1, 1, false⟩)]
        boundaries := [(0, ⟨true, 7, 3, 60, 4⟩)] } }

/-- The hall with its layout ACTIVE, in STANDBY. -/
def hall : State := { live with tables := hallTables, layout := .active, mode := { live.mode with mode := .standby } }

/-- The same router in another mode. -/
def inMode (m : Mode) (s : State) : State := { s with mode := { s.mode with mode := m } }

/-- A request with kind and fields, from node 9. -/
def entry (payload : List Byte) : ReqEntry := ⟨9, false, payload⟩

/-- The router with that request alone in its queue. -/
def asked (s : State) (payload : List Byte) : State := { s with requests := { s.requests with queue := [entry payload] } }

/-- The state a step answers, the state itself where it answers none. -/
def after (c : Instr) (s : State) : State :=
  match exec c s with
  | .next t => t
  | .fault _ => s
  | .refused _ => s

/-- A solve of the hall just begun: the phase is TAKE. -/
def taking : State := { hall with solver := { hall.solver with phase := .take } }

/-- The same solve in SAFE_SWEEP. -/
def sweeping : State :=
  { hall with solver := { hall.solver with
      phase := .safeSweep, snapshot := some (snapshotOf hall), work := setupSafe (snapshotOf hall) hallTables.layout [] } }

/-- A REPORT of channel 0 of node 9, with a condition code. -/
def report (code : Byte) : List Byte := encodeTelegram ⟨255, 9, .haz, false, 1, [0, code]⟩

/-- A presentation of a face. -/
def showing (face : Nat) : Presentation := ⟨face, .steady, 0, 8, 0, .route, .safe⟩

/-- The hall with a record for sign 0. -/
def withSign (r : SignRt) (s : State) : State := { s with signs := { s.signs with records := [(0, r)] } }

/-! ### Well-formedness: each check refuses an ill-formed command -/

theorem test_wf_arrival : Instr.wellFormed (.telegramArrival [1, 2, 3, 4, 5]) = false := by decide
theorem test_wf_arrival_long : Instr.wellFormed (.telegramArrival (List.replicate 39 0)) = false := by decide
theorem test_wf_round : Instr.wellFormed (.roundLimitExpiry 10) = false := by decide
theorem test_wf_silence : Instr.wellFormed (.silenceTimerExpiry 256) = false := by decide
theorem test_wf_watch : Instr.wellFormed (.watchDecayExpiry 64) = false := by decide
theorem test_wf_hold : Instr.wellFormed (.holdTimerExpiry 192) = false := by decide
theorem test_wf_confirm : Instr.wellFormed (.confirmTimerExpiry 192) = false := by decide
theorem test_wf_age : Instr.wellFormed (.ageTimerExpiry 8) = false := by decide
theorem test_wf_accepts : Instr.wellFormed (.telegramArrival (report 2)) = true ∧ Instr.wellFormed (.ageTimerExpiry 7) = true := by
  decide

/-! ### Telegrams and the check -/

/-- The check of the nine characters 1 to 9, the value by which this form of CRC is known (R143). -/
theorem test_crc : crc16 [0x31, 0x32, 0x33, 0x34, 0x35, 0x36, 0x37, 0x38, 0x39] = 0x29B1#16 := by decide +kernel

/-- A REPORT is class HAZ, kind 1: header byte 2 is 01H, and with the shared flag 21H; a RESPONSE is class MGMT, kind 2: 82H. -/
theorem test_headerByte2 :
    headerByte2 ⟨255, 9, .haz, false, 1, []⟩ = 0x01 ∧ headerByte2 ⟨255, 9, .haz, true, 1, []⟩ = 0x21 ∧
    headerByte2 ⟨9, 5, .mgmt, false, 2, []⟩ = 0x82 := by decide

/-! ### One step of a family -/

/-- An ALARM report latches SMOKE, escalates its zone and brings STANDBY to ALERT. -/
theorem test_alarm :
    (zoneRt (after (.telegramArrival (report 2)) hall) 0).smoke = true ∧
    (after (.telegramArrival (report 2)) hall).mode.mode = .alert ∧
    (after (.telegramArrival (report 2)) hall).solver.phase = .take := by decide +kernel

/-- A solve of the hall, both its zones ISOLATED at 60: the exit's place costs 10 + 60. The first sweep routes the junction over 5 + 120
and from it the boundary's place over 9 + 120; the second routes the aisle over 5 + 60. -/
theorem test_sweeps :
    (after .solveTake taking).solver.work.map (·.cost) = [65535, 65535, 70, 65535] ∧
    (after .sweep (after .solveTake taking)).solver.work.map (·.cost) = [65535, 195, 70, 324] ∧
    (after .sweep (after .sweep (after .solveTake taking))).solver.work.map (·.cost) = [260, 195, 70, 324] := by decide +kernel

/-- Power, then start-up with straps 12 and an erased store: the router is in MAINT with no layout, at address 12. -/
theorem test_startUp :
    (after (.startUpReadEnd true) (after (.startUp 12) State.reset)).mode.mode = .maint ∧
    (after (.startUpReadEnd true) (after (.startUp 12) State.reset)).node.address = 12 ∧
    (after (.startUpReadEnd true) (after (.startUp 12) State.reset)).layout = .none := by decide +kernel

/-- EXIT_SET closes the exit and is answered OK to its requester; the next step sends the response. -/
theorem test_exitSet :
    (exitRt (after .exitSet (asked hall [12, 0, 1, 0, 3])) 0).closed = true ∧
    (after .exitSet (asked hall [12, 0, 1, 0, 3])).requests.slot = some ⟨9, [12, 0], false⟩ := by decide +kernel

/-- A state with nothing waiting is decided to be itself: `State` is plain data. -/
theorem test_state_is_data : decide (State.reset = State.reset) = true ∧ decide (live = hall) = false := by decide +kernel

/-! ### Witnesses: states and operands that meet the hypotheses of each obligation, clause by clause -/

theorem witness_StepTakesTheFrontCommand : ({ live with pending := [.uptimeTick] }).pending = .uptimeTick :: [] := rfl

/-- An empty queue; every kind of timer stopped, and one with time left. -/
theorem witness_EmptyQueuePassesOneMillisecond :
    let s := { hall with boundaries := { hall.boundaries with period := some 1 } }
    hall.pending = [] ∧ hall.canonical = true ∧
    (∀ c ∈ [Instr.panelLineLockoutExpiry .evacIn, .laneRestoreExpiry .lane0, .creditStallExpiry .haz, .beatTimerExpiry, .roundLimitExpiry 0,
        .retiredAddressDrop, .silenceTimerExpiry 0, .watchDecayExpiry 0, .recheckExpiry, .holdTimerExpiry 0, .confirmTimerExpiry 0,
        .refreshTimerExpiry, .defaultRepeatExpiry, .ageTimerExpiry 0, .advertPeriodExpiry, .noticeSpacingExpiry, .capturePeriodExpiry],
      expiryTimer hall c = some none) ∧ expiryTimer s .advertPeriodExpiry = some (some 1) := by decide +kernel

theorem witness_PowerAndPinLeaveResetValues :
    State.reset.inReset = true ∧ (Instr.uptimeTick ≠ .powerReset ∧ Instr.uptimeTick ≠ .pinReset) ∧
    (∀ x, Instr.uptimeTick ≠ .startUp x) ∧ (∀ l v, Instr.uptimeTick ≠ .panelLineLevelChange l v) := by
  refine ⟨rfl, by decide, ?_, ?_⟩ <;> (intros; intro h; cases h)

/-- The router as the start-up read of a store with these cells finds it. -/
def reading (r : Store) : State := { State.reset with inReset := false, store := r }

/-- The store at the start-up read of an image that a save has written. -/
def written (t : Tables) : Store := ⟨.startUpRead, false, 0, true, Config.imageCheck t, t⟩

/-- The start-up read of a valid image loads it, sets the start mode and takes the causes. -/
theorem test_valid_image_is_taken {s : State} (h0 : s.inReset = false) (h1 : s.store.op = .startUpRead) (h : imageValid s.store true = true) :
    after (.startUpReadEnd true) s = settle s (takeStartCauses (startCaptureTimer
      (endStartWait (startModeOf (startUpTables true s).tables.params) (startUpTables true s)))) := by
  simp [after, exec, execStartUpReadEnd, run, h0, h1, h]

/-- Straps at both ends of the address range and beyond; the start-up read of an erased store and of a store that holds the hall. -/
theorem witness_StartUpReadsStrapsAndImage :
    State.reset.inReset = true ∧ ((1 : Byte).toNat = 1 ∧ (250 : Byte).toNat = 250 ∧ (251 : Byte).toNat = 251) ∧
    (∀ s ∈ [reading State.reset.store, reading (written hallTables)],
      s.inReset = false ∧ s.store.op = .startUpRead ∧ s.layout = .none ∧ s.mode.heldEvac = false ∧
      s.mode.evacLine.raw = s.mode.evacLine.accepted ∧ s.mode.holdLine.raw = s.mode.holdLine.accepted) ∧
    imageValid (reading State.reset.store).store true = false ∧ imageValid (reading (written hallTables)).store true = true ∧
    (∀ z, z < 64 → zoneState (after (.startUpReadEnd true) (reading State.reset.store)) z = .isolated) ∧
    (∀ z, z < 64 → zoneState (after (.startUpReadEnd true) (reading (written hallTables))) z ∈ [ZoneState.isolated, .stale]) := by
  refine ⟨rfl, by decide, by decide +kernel, rfl, imageValid_written .., by decide +kernel, ?_⟩
  rw [test_valid_image_is_taken rfl rfl (imageValid_written ..)]; decide +kernel

theorem witness_UptimeClockCountsAndWraps : live.inReset = false ∧ Instr.restart ≠ .uptimeTick ∧ Instr.restart ≠ .powerReset ∧
    Instr.restart ≠ .pinReset := by decide

/-- STANDBY with a capture slot empty and with both filled, EVAC, and MAINT with a layout and with none. -/
theorem witness_EvacInFallingEdgeOrdersEvac :
    let full := { hall with captures := { hall.captures with
      filled := [⟨0, captureOf .request hall⟩, ⟨1, captureOf .request hall⟩] } }
    (∀ s ∈ [hall, full, inMode .evac hall, inMode .maint hall, live], s.canonical = true ∧ s.inReset = false ∧ s.mode.startWait = false ∧
      s.mode.evacLine.lockout = none ∧ s.mode.evacLine.accepted = .inactive) ∧
    emptySlot hall.captures.filled = some 0 ∧ emptySlot full.captures.filled = none ∧ full.mode.mode = .standby ∧
    live.mode.mode = .maint ∧ live.mode.fireWaiting = false ∧ live.layout = .none := by decide +kernel

/-- Both lines at both accepted levels, a lockout that ends on the same level and on another, and a line that is not looked at. -/
theorem witness_PanelLinesAreTakenAndLockedOut :
    let evacOn := { hall with mode := { hall.mode with evacLine := ⟨.active, .active, none⟩ } }
    let holdOn := { hall with mode := { hall.mode with holdLine := ⟨.active, .active, none⟩ } }
    let same := { hall with mode := { hall.mode with evacLine := ⟨.active, .active, some 0⟩ } }
    let other := { hall with mode := { hall.mode with evacLine := ⟨.active, .inactive, some 0⟩, holdLine := ⟨.inactive, .active, some 0⟩ } }
    (evacOn.inReset = false ∧ evacOn.mode.startWait = false ∧ evacOn.mode.evacLine.lockout = none ∧
      evacOn.mode.evacLine.accepted = .active) ∧
    (hall.mode.holdLine.lockout = none ∧ hall.mode.holdLine.accepted = .inactive ∧ hall.store.op ≠ .save) ∧
    (holdOn.mode.holdLine.lockout = none ∧ holdOn.mode.holdLine.accepted = .active) ∧
    ((panelLine same .evacIn).lockout = some 0 ∧ (panelLine same .evacIn).raw = (panelLine same .evacIn).accepted) ∧
    ((panelLine other .evacIn).lockout = some 0 ∧ (panelLine other .evacIn).raw ≠ (panelLine other .evacIn).accepted ∧
      (panelLine other .evacIn).raw = .active ∧ other.mode.mode ≠ .maint) ∧
    ((panelLine other .holdIn).lockout = some 0 ∧ (panelLine other .holdIn).raw = .inactive) ∧
    (State.reset.inReset = true ∧ ({ live with mode := { live.mode with startWait := true } }).mode.startWait = true) := by
  decide +kernel

theorem witness_ModeChangesReachTheirReaders : hall.canonical = true ∧
    (∀ m ∈ [Mode.quiet, .alert, .evac, .maint], hall.mode.mode ≠ m) ∧ 0 < signsInUse hall ∧ hall.signs.selections = none ∧
    (∀ m ∈ [Mode.quiet, .standby, .alert, .evac, .maint], ∀ k ∈ [SelKind.home, .route, .gap, .fallback],
      let s := { inMode m hall with signs := { hall.signs with selections := some [⟨k, 1, .leastHarm, 70, some (.exit 0)⟩] } }
      s.mode.mode = m ∧ s.signs.selections = some [⟨k, 1, .leastHarm, 70, some (.exit 0)⟩] ∧
      [(⟨k, 1, .leastHarm, 70, some (.exit 0)⟩ : Selection)][0]? = some ⟨k, 1, .leastHarm, 70, some (.exit 0)⟩) := by decide +kernel

/-- Every mode, a zone that wakes on watch and one that does not, and the start wait. -/
theorem witness_HazardEventsMoveTheMode :
    (∀ m ∈ [Mode.quiet, .standby, .alert, .evac, .maint], (inMode m hall).mode.startWait = false ∧ (inMode m hall).mode.mode = m) ∧
    State.reset.mode.startWait = true ∧ (zoneEntry hall 0).wakeOnWatch = true ∧ (zoneEntry hall 1).wakeOnWatch = false := by
  decide +kernel

/-- MODE_SET of each target: in the start wait, in the mode itself, in ALERT, in MAINT with and without a layout, with and without a
hazard. -/
theorem witness_ModeSetIsJudgedInOrder :
    let smoke := after (.telegramArrival (report 2)) (inMode .maint hall)
    (∀ x ∈ [((7 : Byte), (0 : Byte), ReqRow.modeSetQuiet), (7, 1, .modeSetStandby), (7, 4, .modeSetMaint), (7, 2, .modeSetBadTarget)],
      Begins x.2.2 (entry [x.1, x.2.1]) (asked hall [x.1, x.2.1])) ∧
    (∀ s ∈ [inMode .maint hall, live, inMode .quiet hall, inMode .alert hall, inMode .evac hall, inMode .quiet smoke, smoke,
        { live with mode := { live.mode with startWait := true } }],
      Begins .modeSetStandby (entry [7, 1]) (asked s [7, 1])) ∧
    hazardPresent hall = false ∧ hazardPresent (inMode .quiet smoke) = true ∧ hazardPresent smoke = true ∧
    smoke.mode.mode = .alert := by
  unfold Begins; decide +kernel

/-- EVAC with and without the EVAC demand, a DENSE zone, another hazard and none. -/
theorem witness_EvacIsSetAndCancelled :
    let dense := after (.telegramArrival (report 2)) { hall with tables := { hallTables with detectors := [(0, ⟨9, 0, 0, 3⟩)] } }
    let smoke := after (.telegramArrival (report 2)) hall
    (∀ s ∈ [hall, live, inMode .evac hall, { live with mode := { live.mode with startWait := true } }],
      Begins .modeSetEvac (entry [7, 3]) (asked s [7, 3]) ∧ Begins .evacCancel (entry [8]) (asked s [8])) ∧
    (anyDense dense = true ∧ dense.mode.mode = .evac ∧ dense.mode.evacDemand = false) ∧
    (anyDense smoke = false ∧ hazardPresent smoke = true) ∧ (anyDense hall = false ∧ hazardPresent hall = false) ∧
    (after .evacInFallingEdge hall).mode.evacDemand = true := by unfold Begins; decide +kernel

theorem witness_FirePathActsByTheLayout :
    (∀ l ∈ [Layout.none, .editing, .validating, .reloading, .active], ∀ w ∈ [true, false],
      let s := { inMode .maint hall with layout := l, mode := { (inMode .maint hall).mode with fireWaiting := w } }
      s.canonical = true ∧ s.mode.mode = .maint ∧ s.mode.fireWaiting = w ∧ s.layout = l) := by decide +kernel

theorem witness_EvacIsLeftOnlyByCancelOrReset : (inMode .evac hall).lifecycle = true ∧ (inMode .evac hall).mode.mode = .evac ∧
    Instr.evacInRisingEdge ≠ .evacCancel ∧ Instr.evacInRisingEdge ≠ .powerReset ∧ Instr.evacInRisingEdge ≠ .pinReset := by
  decide +kernel

/-- Sources at both ends of their range, payloads of no byte and of 32; bytes that are read as good. -/
theorem witness_TelegramsAreReadAsWritten :
    ∀ m ∈ [(⟨0, 1, .haz, false, 0, []⟩ : Telegram), ⟨255, 250, .ctl, true, 31, List.replicate 32 255⟩],
      1 ≤ m.source.toNat ∧ m.source.toNat ≤ 250 ∧ m.payload.length ≤ 32 ∧ parseTelegram (encodeTelegram m) = .good m := by
  decide +kernel

/-- No telegram is read from bytes with a wrong check, a source of 0 or 251, a length byte that is not the payload's, or too few bytes. -/
theorem test_bad_bytes :
    (∀ m ∈ [(⟨255, 0, .haz, true, 1, [0]⟩ : Telegram), ⟨255, 251, .haz, true, 1, [0]⟩],
      parseTelegram (encodeTelegram m) = .bad (some .shared)) ∧
    parseTelegram ((report 2).set 5 3) = .bad (some (.dedicated .haz)) ∧
    parseTelegram ((report 2).set 3 1) = .bad (some (.dedicated .haz)) ∧ parseTelegram [1, 2] = .bad none := by decide +kernel

/-- Port A down; too few bytes, and a header that names a credit, with a bad check; a good telegram with no credit outstanding. -/
theorem witness_BadArrivalsTakeNoSlot :
    let down := { live with portA := PortA.reset [] }
    (∀ m, Arrival.bad none ≠ .good m) ∧ ({ live.portA with state := .down }).state = .down ∧ live.portA.state ≠ .down ∧
    parseTelegram [1, 2] = .bad none ∧ parseTelegram [255, 9, 0x21, 0, 0, 0] = .bad (some .shared) ∧
    0 < live.portA.outstanding.count .shared ∧ down.portA.outstanding.count .shared = 0 ∧ down.portA.state ≠ .down ∧
    parseTelegram (report 2) = .good ⟨255, 9, .haz, false, 1, [0, 2]⟩ ∧
    down.portA.outstanding.count (creditOf false .haz) = 0 := by
  exact ⟨fun m h => (by cases h), by decide +kernel⟩

/-- An own telegram and one from the retired address, a request to the router with the queue empty and full, a STATUS and another kind to it,
a telegram to another node with a way to cut through and without one, and broadcasts taken and not taken. -/
theorem witness_ArrivalsAreStrippedTakenOrForwarded :
    let own : Telegram := ⟨9, 5, .mgmt, false, 2, []⟩
    let request : Telegram := ⟨5, 9, .mgmt, true, 1, [1, 0]⟩
    let passing : Telegram := ⟨77, 9, .sign, false, 1, [0]⟩
    let old : Telegram := ⟨255, 4, .ctl, false, 1, [3]⟩
    let status : Telegram := ⟨5, 200, .sign, false, 3, [0, 1, 1, 0]⟩
    let other : Telegram := ⟨5, 9, .mgmt, false, 3, []⟩
    let broadcast : Telegram := ⟨255, 9, .mgmt, false, 1, [7, 3]⟩
    let advert : Telegram := ⟨255, 60, .ctl, false, 2, [7, 0, 30, 0]⟩
    let plain : Telegram := ⟨255, 9, .ctl, false, 1, [3]⟩
    let renamed := { live with node := { live.node with retired := some ⟨4, some 5⟩ } }
    (∀ m ∈ [old, status, other, broadcast, advert, plain], parseTelegram (encodeTelegram m) = .good m ∧
      (arrivalSlot hall m).isSome = true ∧ m.isKind .haz 1 = false ∧ isOwn hall m = false ∧ isRetired hall m = false) ∧
    (renamed.node.retired = some ⟨4, some 5⟩ ∧ old.source.toNat = 4 ∧ (arrivalSlot renamed old).isSome = true ∧ isOwn renamed old = false ∧
      addressed renamed = true ∧ addressed hall = true) ∧
    (status.dest.toNat = hall.node.address ∧ status.isKind .mgmt 1 = false ∧ status.isKind .sign 3 = true ∧
      other.isKind .mgmt 1 = false ∧ other.isKind .sign 3 = false) ∧
    (broadcast.dest.toNat = 255 ∧ broadcast.isKind .mgmt 1 = true ∧ broadcastAccepted true broadcast.payload = true ∧
      broadcastAccepted false [24] = true ∧ broadcastAccepted false broadcast.payload = false) ∧
    (advert.isKind .ctl 2 = true ∧ plain.isKind .ctl 2 = false ∧ plain.isKind .mgmt 1 = false) ∧
    cutsThrough hall .mgmt = true ∧
    (∀ m ∈ [own, request, passing], parseTelegram (encodeTelegram m) = .good m ∧ (arrivalSlot live m).isSome = true ∧
      m.isKind .haz 1 = false) ∧
    live.portA.state.isUp = true ∧ live.node.retired = none ∧ addressed live = true ∧
    (live.node.address ≤ 250 ∧ hall.node.address ≤ 250 ∧ ({ live.node with address := 250 }).address ≤ 250) ∧
    (isOwn live own = true ∧ own.isKind .ctl 1 = false) ∧
    (isOwn live request = false ∧ request.dest.toNat = live.node.address ∧ request.isKind .mgmt 1 = true) ∧
    (isOwn live passing = false ∧ passing.dest.toNat ≠ 255 ∧ passing.dest.toNat ≠ live.node.address) ∧
    cutsThrough live .sign = true ∧ cutsThrough { live with portB := PortB.reset } .sign = false ∧
    live.requests.queue.length < 4 ∧
    4 ≤ ({ live.requests with queue := List.replicate 4 (entry [1, 0]) }).queue.length := by decide +kernel

/-- A tabled REPORT with each condition code and with one that is none of the four, an untabled one, and payloads of no byte and of one;
a zone that escalates and one that does not; a FAULT where the flag is clear. -/
theorem witness_ReportsAreSnooped :
    let heard := fun (c : Condition) => recompute 0 (setZoneRt (setDetectorRt hall 0 ⟨c, true, some 300000, false, c = .fault, 0⟩) 0
      { zoneRt hall 0 with stale := false })
    (hall.canonical = true ∧ hall.inReset = false ∧ hall.portA.state ≠ .down ∧ hall.node.address ≤ 250) ∧
    (∀ c ∈ [(0 : Byte), 1, 2, 3, 4], parseTelegram (report c) = .good ⟨255, 9, .haz, false, 1, [0, c]⟩) ∧
    (∀ f ∈ [[], [(0 : Byte)]], parseTelegram (encodeTelegram ⟨255, 9, .haz, false, 1, f⟩) = .good ⟨255, 9, .haz, false, 1, f⟩ ∧
      f.length < 2) ∧
    (arrivalSlot hall ⟨255, 9, .haz, false, 1, [0, 2]⟩).isSome = true ∧ detectorWith hall 9 0 = some 0 ∧
    ([(0 : Nat), 1, 2, 3].map conditionOfCode = [some .normal, some .preAlarm, some .alarm, some .fault]) ∧
    conditionOfCode 4 = none ∧ detectorWith hall 9 3 = none ∧ 3 < (4 : Byte).toNat ∧
    isEscalation (zoneState hall 0) (zoneState (heard .alarm) 0) = true ∧
    isEscalation (zoneState hall 0) (zoneState (heard .normal) 0) = false ∧ (detectorRt hall 0).fault = false := by decide +kernel

/-- An ALARM counts REPORTS_TAKEN after the events of its forwarding; a REPORT of one byte counts the forwarding alone (R28, R29). -/
theorem test_reports_taken :
    let counting := { hall with portB := PortB.reset, counters := ⟨[(0, ⟨0, false, 9, 0, 0, false⟩), (1, ⟨0, false, 3, 15, 0, false⟩)], false⟩ }
    let t := after (.telegramArrival (report 2)) counting
    let u := after (.telegramArrival (encodeTelegram ⟨255, 9, .haz, false, 1, [0]⟩)) counting
    (counterAt t 0).value = 1 ∧ (counterAt t 1).value = 1 ∧ (zoneRt t 0).smoke = true ∧
    (counterAt u 0).value = 0 ∧ (counterAt u 1).value = 1 ∧ u.hazard = counting.hazard := by decide +kernel

/-- Lane 0 in each of its states, with lane 1 UP and DOWN. -/
theorem witness_PortALanesFollowActivity :
    let lane0 := fun (x : LaneA) => { hall with portA := { hall.portA with lane0 := x } }
    (∀ s ∈ [lane0 LaneA.reset, lane0 ⟨.restoring, some 0, false⟩, hall], s.canonical = true ∧ s.inReset = false ∧
      s.portA.state.isUp = true ∧ (s.portA.lane .lane1).state = .up) ∧ Lane.lane1 ≠ .lane0 ∧
    ((lane0 LaneA.reset).portA.lane .lane0).state = .down ∧
    ((lane0 ⟨.restoring, some 0, false⟩).portA.lane .lane0).state = .restoring ∧
    ((lane0 ⟨.restoring, some 0, false⟩).portA.lane .lane0).restore = some 0 ∧
    (hall.portA.lane .lane0).state = .up := by decide +kernel

/-- Port A in training with a lane about to come up; up, with idle fill seen on the lane and not. -/
theorem witness_TrainingGrantsTheFreeSlots :
    let training := { hall with portA := { PortA.reset [] with lane0 := ⟨.restoring, some 0, false⟩ } }
    let filled := { hall with portA := { hall.portA with lane0 := ⟨.up, none, true⟩ } }
    (training.canonical = true ∧ training.inReset = false ∧ (training.portA.lane .lane0).state = .restoring ∧
      (training.portA.lane .lane0).restore = some 0 ∧ training.portA.state.isUp = false) ∧
    (∀ s ∈ [hall, filled], s.canonical = true ∧ s.inReset = false ∧ s.portA.state.isUp = true ∧
      (s.portA.lane .lane0).isUp = true) ∧
    (filled.portA.lane .lane0).fillSeen = true ∧ (hall.portA.lane .lane0).fillSeen = false := by decide +kernel

theorem witness_PortADownIsLoopLoss :
    let single := { hall with portA := { hall.portA with lane1 := LaneA.reset, state := .upSingle } }
    single.canonical = true ∧ single.inReset = false ∧ (single.portA.lane .lane0).state = .up ∧
    (single.portA.lane .lane1).state ≠ .up ∧ single.portA.state.isUp = true ∧ zoneLatched single 0 = false ∧
    zoneLatched (setZoneRt single 1 { ZoneRt.reset with smoke := true }) 1 = true := by decide +kernel

/-- Port B up with a transmission of its own, with a forwarded one and with none; down with and without a held grant, and with a lane UP; a
lane UP that a report takes DOWN in each. -/
theorem witness_PortBFollowsStatusAndGrants :
    let m : Telegram := ⟨77, 9, .sign, false, 1, [0]⟩
    let own := { live with forward := { live.forward with tx := some ⟨m, none⟩ } }
    let passing := { live with forward := { live.forward with tx := some ⟨m, some 2⟩ } }
    let down := { live with portB := { PortB.reset with heldGrant := some ⟨⟨2, 2, 2, 2⟩, 8⟩ } }
    let one := { live with portB := { PortB.reset with lane0Up := true } }
    (∀ s ∈ [live, own, passing], s.canonical = true ∧ s.inReset = false ∧ s.portB.state.isUp = true) ∧
    own.forward.tx = some ⟨m, none⟩ ∧ passing.forward.tx = some ⟨m, some 2⟩ ∧ live.forward.tx = none ∧
    (true || false) = true ∧ (live.portB.lane0Up = true ∧ live.portB.lane1Up = true) ∧ down.portB.state.isUp = false ∧ down.inReset = false ∧
    (one.portB.state.isUp = false ∧ one.portB.lane0Up = true ∧ one.canonical = true) ∧
    ({ live with portB := PortB.reset }).portB.state.isUp = false := by decide +kernel

/-- The resend slot, a forwarded HAZ telegram, a beat and a sign's SHOW, each the first sendable; the resend slot kept and not offered: while
unaddressed, and a SHOW in MAINT and in the freeze; and nothing sendable, a busy transmitter, a port down. -/
theorem witness_ArbiterTakesTheFirstSendable :
    let m : Telegram := ⟨77, 5, .mgmt, false, 2, []⟩
    let h : PoolSlot := ⟨0, false, ⟨255, 9, .haz, false, 1, [0, 2]⟩, true⟩
    let resend := { live with forward := { live.forward with resend := some m } }
    let lost := { resend with node := { live.node with address := 0 } }
    let queued := { live with portA := { live.portA with pool := [h] } }
    let beat := { live with cadence := { live.cadence with slot := some 3 } }
    let sign := { live with signs := { live.signs with defaultSlot := true } }
    let head := { withSign { SignRt.reset with desired := some (showing 1) } hall with
      signs := { (withSign { SignRt.reset with desired := some (showing 1) } hall).signs with forced := [0] } }
    let keeping := fun (x : Telegram) (s : State) => { s with forward := { s.forward with resend := some x } }
    let show1 : Telegram := ⟨200, 5, .sign, false, 1, showPayload 0 (showing 1)⟩
    let advert : Telegram := ⟨255, 5, .ctl, false, 2, [7, 0, 30, 0]⟩
    let frozen := { hall with mode := { hall.mode with frozen := true } }
    (∀ x ∈ [(show1, inMode .maint hall), (show1, frozen)], resendOffer (keeping x.1 x.2) = none) ∧
    (∀ x ∈ [(show1, hall), (advert, hall), (advert, live)], resendOffer (keeping x.1 x.2) = some x.1) ∧
    (∀ x ∈ [(resend, Choice.resend m), (queued, .forwarded h), (beat, .beat 3), (sign, .sign .showDefault), (head, .sign (.head 0))],
      x.1.inReset = false ∧ x.1.forward.tx = none ∧ x.1.portB.state.isUp = true ∧ firstSendable x.1 = some x.2) ∧
    (addressed lost = false ∧ firstSendable lost = none ∧ lost.forward.resend = some m ∧ addressed resend = true) ∧
    (signRt head 0).desired.isSome = true ∧ usable live .mgmt = true ∧ usable live .haz = true ∧ usable live .ctl = true ∧
    usable live .sign = true ∧ addressed live = true ∧
    (forwardQueue queued).find? (fun q => decide (q.telegram.cls = .haz)) = some h ∧
    forwardQueue live = [] ∧ live.forward.resend = none ∧ live.cadence.slot = none ∧ signOffer sign = some .showDefault ∧
    signOffer live = none ∧ firstSendable live = none ∧
    ({ live with portB := PortB.reset }).portB.state.isUp = false ∧
    ({ live with forward := { live.forward with tx := some ⟨m, none⟩ } }).forward.tx.isSome = true := by decide +kernel

/-- The two sides and the sign scheduler's offer: side a with a telegram of another class; side b with a notice, a response, an advert and
none; a refresh where the queue is empty and one is due, and no offer outside its conditions. -/
theorem witness_ArbiterTakesTheFirstSendable_sides :
    let p : PoolSlot := ⟨2, false, ⟨77, 9, .sign, false, 1, [0]⟩, true⟩
    let passing := { live with portA := { live.portA with pool := [p] } }
    let notice := { live with
      notices := { live.notices with causes := [(1, ⟨true, false, 0⟩)] }
      tables := { live.tables with params := { live.tables.params with panelAddress := 9 } } }
    let answer := { live with requests := { live.requests with slot := some ⟨9, [1, 0], false⟩ } }
    let advert := setBoundaryRt hall 0 { BoundaryRt.reset with computed := some ⟨65535, .safe⟩, due := true }
    let shown := withSign { SignRt.reset with commanded := some (showing 1) } hall
    let refresh := { shown with signs := { shown.signs with refreshDue := true } }
    (sideA passing = some (.forwarded p) ∧ sideA live = none) ∧
    (∀ x ∈ [(passing, Choice.forwarded p), (notice, .notice 1), (answer, .response ⟨9, [1, 0], false⟩), (advert, .advert 0),
        (refresh, .sign (.refresh 0))], firstSendable x.1 = some x.2 ∧ x.1.forward.tx = none ∧ x.1.portB.state.isUp = true) ∧
    (sideB notice = some (.notice 1) ∧ sideB answer = some (.response ⟨9, [1, 0], false⟩) ∧ sideB advert = some (.advert 0) ∧
      sideB live = none) ∧
    (signOffer refresh = some (.refresh 0) ∧ signOffer (inMode .maint refresh) = none ∧
      signOffer { refresh with mode := { refresh.mode with frozen := true } } = none ∧ signOffer { refresh with layout := .editing } = none ∧
      signOffer { refresh with node := { refresh.node with address := 0 } } = none ∧ signOffer shown = none) ∧
    ((after .arbiterTake passing).forward.turn = .b ∧
      (after .arbiterTake { answer with forward := { answer.forward with turn := .b } }).forward.turn = .a) := by decide +kernel

/-- Each owner's item as the first sendable one: a beat, the head of the update queue, a notice, a response and an advert. -/
theorem witness_OwnersActAtTheTake :
    let beat := { live with cadence := { live.cadence with slot := some 7 } }
    let head := { withSign { SignRt.reset with desired := some (showing 1) } hall with
      signs := { (withSign { SignRt.reset with desired := some (showing 1) } hall).signs with forced := [0] } }
    let notice := { live with
      notices := { live.notices with causes := [(1, ⟨true, false, 0⟩)] }
      tables := { live.tables with params := { live.tables.params with panelAddress := 9 } } }
    let tenth := { beat with cadence := { beat.cadence with round := List.replicate 10 ⟨6, some 100⟩ } }
    let answer := { live with requests := { live.requests with slot := some ⟨9, [1, 0], false⟩ } }
    let advert := setBoundaryRt hall 0 { BoundaryRt.reset with computed := some ⟨65535, .safe⟩, due := true }
    (∀ x ∈ [(beat, Choice.beat 7), (tenth, .beat 7), (head, .sign (.head 0)), (notice, .notice 1), (answer, .response ⟨9, [1, 0], false⟩),
        (advert, .advert 0)],
      x.1.canonical = true ∧ x.1.inReset = false ∧ x.1.forward.tx = none ∧ x.1.portB.state.isUp = true ∧
      firstSendable x.1 = some x.2) ∧
    beat.cadence.round.length < 10 ∧ 10 ≤ tenth.cadence.round.length ∧ (boundaryRt advert 0).computed = some ⟨65535, .safe⟩ ∧
      (signRt head 0).desired = some (showing 1) := by decide +kernel

/-- An own transmission; a forwarded one, with Port A up and down. -/
theorem witness_TransmissionFreesItsSlot :
    let m : Telegram := ⟨77, 9, .sign, false, 1, [0]⟩
    let own := { live with forward := { live.forward with tx := some ⟨m, none⟩ } }
    let passing := { live with
      forward := { live.forward with tx := some ⟨m, some 2⟩ }, portA := { live.portA with pool := [⟨2, false, m, false⟩] } }
    own.inReset = false ∧ own.forward.tx = some ⟨m, none⟩ ∧ passing.inReset = false ∧ passing.forward.tx = some ⟨m, some 2⟩ ∧
    passing.portA.pool.find? (fun q => decide (q.index = 2)) = some ⟨2, false, m, false⟩ ∧ passing.portA.state.isUp = true ∧
    ({ passing.portA with state := .down }).state.isUp = false := by decide +kernel

/-- The address held, another one, and straps that give none. -/
theorem witness_AddressTakeReadsTheStraps :
    live.canonical = true ∧ Begins .addressTake (entry [24]) (asked live [24]) ∧ live.node.address = strapAddress 5 ∧
    live.node.address ≠ strapAddress 250 ∧ strapAddress 250 ≠ 0 ∧ live.node.address ≠ strapAddress 251 ∧ strapAddress 251 = 0 ∧
    strapAddress 0 = 0 ∧ live.inReset = false ∧
    ({ live.node with retired := some ⟨4, some 0⟩ }).retired = some ⟨4, some 0⟩ := by unfold Begins; decide +kernel

/-- The beat timer running in ALERT; a round check list of one with 0, 2 and 3 misses; an own BEAT with its entry and without. -/
theorem witness_BeatsAreSentAndChecked :
    let alert := { inMode .alert hall with cadence := { hall.cadence with timer := some 0 } }
    let round := fun (n : Nat) => { hall with cadence := { hall.cadence with round := [⟨7, some 0⟩], missCount := n } }
    let beat : Telegram := ⟨255, 5, .ctl, false, 1, [7]⟩
    (round 0).cadence.round[0]? = some ⟨7, some 0⟩ ∧
    (alert.inReset = false ∧ beatRuns alert = true ∧ alert.cadence.timer = some 0) ∧
    (∀ n ∈ [1, 2, 3], (round n).canonical = true ∧ (round n).inReset = false ∧ 0 < (round n).cadence.round.length ∧
      (round n).cadence.missCount = n ∧ (round n).cadence.loopOpen = false) ∧
    hall.portA.state.isUp = true ∧ addressed hall = true ∧ parseTelegram (encodeTelegram beat) = .good beat ∧
    (arrivalSlot hall beat).isSome = true ∧ isOwn hall beat = true ∧ beat.isKind .ctl 1 = true ∧ beat.payload = [7] ∧
    (round 0).cadence.round.findIdx? (fun x => decide (x.beat.val = 7)) = some 0 ∧
    hall.cadence.round.findIdx? (fun x => decide (x.beat.val = 7)) = none := by decide +kernel

/-- The beat timer's condition: it holds in the hall, and fails unaddressed and with Port B not up. -/
theorem witness_BeatsAreSentAndChecked_settle :
    beatRuns hall = true ∧ beatRuns { hall with portB := PortB.reset } = false ∧
    beatRuns { hall with node := { hall.node with address := 0 } } = false := by decide +kernel

/-- A class that is starved with its timer running, starved with none, starved in an episode, and one that is not starved. -/
theorem witness_StallEpisodesFollowStarvation :
    let s := { live with
      portB := { live.portB with credits := Credits.zero }
      forward := { live.forward with resend := some ⟨77, 5, .mgmt, false, 2, []⟩ } }
    let running := { s with forward := { s.forward with stalls := s.forward.stalls.set .mgmt ⟨some 0, false⟩ } }
    let episode := { s with forward := { s.forward with stalls := s.forward.stalls.set .mgmt ⟨none, true⟩ } }
    (running.canonical = true ∧ running.inReset = false ∧ (running.forward.stalls.get .mgmt).timer = some 0) ∧
    starved (settle s live) .mgmt = false ∧
    (starved (settle s s) .mgmt = true ∧ (s.forward.stalls.get .mgmt).episode = false ∧ (s.forward.stalls.get .mgmt).timer = none) ∧
    starved (settle s episode) .mgmt = true ∧ (episode.forward.stalls.get .mgmt).episode = true := by decide +kernel

/-- Counters not frozen and frozen; counter 3 one below the wrap, which passes it, and counter 0 at rest; with freeze on overflow. -/
theorem witness_SamplesAreCountedAndCountersWrap :
    let s := { live with counters := ⟨[(3, ⟨4294967295#32, false, 5, 15, 0, true⟩)], false⟩ }
    let one : Counter → Nat := fun k => if k.event = 5 then 1 else 0
    live.inReset = false ∧ s.canonical = true ∧ s.counters.frozen = false ∧ ({ s.counters with frozen := true }).frozen = true ∧
    2 ^ 32 ≤ (counterAt s 3).value.toNat + one (counterAt s 3) ∧ (counterAt s 3).freezeOnOverflow = true ∧
    (∀ j, j < 4 → 3 < j → (counterAt s j).value.toNat + one (counterAt s j) < 2 ^ 32) ∧
    (∀ i, i < 4 → (counterAt live i).value.toNat + one (counterAt live i) < 2 ^ 32) := by decide +kernel

/-- Two classes wait at a counter with one occurrence to go and freeze on overflow: the first wraps and freezes it, and the second adds
nothing (R153, R182, R183). -/
theorem test_credit_wait_is_per_class :
    let m (c : TClass) : PoolSlot := ⟨0, false, ⟨77, 9, c, false, 1, [0]⟩, true⟩
    let s := { live with
      portB := { live.portB with credits := Credits.zero }
      portA := { live.portA with pool := [m .haz, m .sign] }
      counters := ⟨[(0, ⟨4294967295#32, false, 6, 15, 0, true⟩)], false⟩ }
    creditWaiters s = [.haz, .sign] ∧ (counterAt (after .creditWaitSample s) 0).value = 0 ∧
    (after .creditWaitSample s).counters.frozen = true := by decide +kernel

/-- Zone 63 unchanged; zone 0 escalated, with the lock open and closed, in the start wait, after it and in MAINT; zone 0 changed, in every mode; zone 1
changed with the usability of exit 0. -/
theorem witness_RecomputationDerivesTheZone :
    let alarm := setDetectorRt hall 0 { DetectorRt.reset with last := .alarm }
    let waiting := { alarm with mode := { alarm.mode with startWait := true } }
    let locked := { alarm with captures := { alarm.captures with lockClosed := true } }
    hall.canonical = true ∧ zoneState (recompute 63 hall) 63 = zoneState hall 63 ∧
    (∀ s ∈ [alarm, waiting, locked, inMode .maint alarm], s.canonical = true ∧ isEscalation (zoneState s 0) (zoneState (recompute 0 s) 0) = true) ∧
    (waiting.mode.startWait = true ∧ alarm.mode.startWait = false ∧ alarm.mode.mode ≠ .maint) ∧
    (alarm.captures.lockClosed = false ∧ emptySlot alarm.captures.filled = some 0 ∧ locked.captures.lockClosed = true) ∧
    (∀ m ∈ [Mode.quiet, .standby, .alert, .evac, .maint], zoneState (recompute 0 (inMode m hall)) 0 ≠ zoneState (inMode m hall) 0 ∧
      isEscalation (zoneState (inMode m hall) 0) (zoneState (recompute 0 (inMode m hall)) 0) = false ∧
      (inMode m hall).mode.startWait = false) ∧
    (exitRt (recompute 1 hall) 0).usability ≠ (exitRt hall 0).usability ∧
    (∀ k, k < 32 → 0 < k → (exitRt (recompute 1 hall) k).usability = (exitRt hall k).usability) := by decide +kernel

/-- The silence timers of the first and the last detector, and the watch decay timer of a zone that becomes CLEAR. -/
theorem witness_SilenceAndWatchTimersExpire :
    let s := setDetectorRt (setDetectorRt hall 0 { DetectorRt.reset with silence := some 0 }) 255 { DetectorRt.reset with silence := some 0 }
    let w := setZoneRt hall 0 { ZoneRt.reset with stale := false, watch := some 0 }
    s.canonical = true ∧ s.inReset = false ∧ (detectorRt s 0).silence = some 0 ∧ (detectorRt s 255).silence = some 0 ∧
    w.canonical = true ∧ w.inReset = false ∧ (zoneRt w 0).watch = some 0 ∧ (zoneRt w 0).preCount = preAlarms w 0 ∧
    (zoneRt w 0).preCount = 0 ∧ alarmWeight w 0 = 0 ∧ 1 ≤ (zoneEntry w 0).denseQuorum ∧ zoneLatched w 0 = false ∧
    (zoneRt w 0).isolate = false ∧ zoneAllOut w 0 = false ∧ (zoneRt w 0).stale = false := by decide +kernel

/-- The four zone requests and the bad setting, at zones 0, 63 and 64. -/
theorem witness_ZoneRequestsActOnOneZone :
    hall.canonical = true ∧ hall.inReset = false ∧ (0 : Byte).toNat < 64 ∧ (63 : Byte).toNat < 64 ∧ 64 ≤ (64 : Byte).toNat ∧
    (∀ z ∈ [(0 : Byte), 63, 64], Begins .zoneReset (entry [9, z]) (asked hall [9, z]) ∧
      Begins .zoneIsolateOn (entry [10, z, 1]) (asked hall [10, z, 1]) ∧
      Begins .zoneIsolateOff (entry [10, z, 0]) (asked hall [10, z, 0]) ∧ Begins .zoneConfirm (entry [11, z]) (asked hall [11, z]) ∧
      Begins .zoneIsolateBadSetting (entry [10, z, 2]) (asked hall [10, z, 2])) ∧
    fieldsOf (entry [10, 63, 2]) = [63, 2] ∧ zoneState hall 0 ≠ .dense ∧ zoneLatched hall 0 = false := by unfold Begins; decide +kernel

/-- Exits 0, 31 and 32; the values held, a closing, a bias of 5000 and of 5001, a panel state of 2. -/
theorem witness_ExitSetIsHandedToTheSolver :
    (∀ f ∈ [[(0 : Byte), 0, 0, 0], [0, 1, 0, 0], [31, 1, 0x13, 0x88], [32, 0, 0, 0], [0, 0, 0x13, 0x89], [0, 2, 0, 0]],
      (asked hall (12 :: f)).canonical = true ∧ Begins .exitSet (entry (12 :: f)) (asked hall (12 :: f)) ∧
      fieldsOf (entry (12 :: f)) = f) ∧
    word16 0x13 0x88 = 5000 ∧ word16 0x13 0x89 = 5001 ∧ (exitRt hall 0).closed = false ∧ (exitRt hall 0).bias = 0 ∧
    (exitEntry hall 0).defined = true ∧ (exitEntry hall 31).defined = false ∧
    usabilityOf true true (zoneState hall 1) ≠ (exitRt (recompute 1 hall) 0).usability := by unfold Begins; decide +kernel

theorem witness_LatchesAreClearedByResetAlone :
    let s := setZoneRt hall 0 { ZoneRt.reset with smoke := true, dense := true }
    s.canonical = true ∧ (zoneRt s 0).smoke = true ∧ (zoneRt s 0).dense = true ∧
    Instr.restart ≠ .zoneReset ∧ Instr.restart ≠ .powerReset ∧ Instr.restart ≠ .pinReset := by decide +kernel

/-- Each layout, each phase, the restart count below its limit and at it. -/
theorem witness_TriggersStartRestartOrPend :
    live.layout ≠ .active ∧ (hall.layout = .active ∧ hall.solver.phase = .idle) ∧
    (sweeping.layout = .active ∧ sweeping.solver.phase = .safeSweep ∧ sweeping.solver.snapshot = some (snapshotOf hall) ∧
      sweeping.solver.restarts < (snapshotOf hall).restartLimit) ∧
    ((snapshotOf hall).restartLimit ≤ ({ sweeping.solver with restarts := 2 }).restarts ∧ taking.solver.phase = .take) ∧
    (({ hall with solver := { hall.solver with recheck := some 0 } }).solver.recheck = some 0 ∧ hall.inReset = false) ∧
    (∀ l ∈ [Layout.none, .editing, .validating, .reloading, .active],
      Begins .solveNow (entry [13]) (asked { hall with layout := l } [13])) := by unfold Begins; decide +kernel

/-- The four kinds of place in a solve at TAKE, and signs of each kind of selection. -/
theorem witness_TakeAndSelectFollowTheTables :
    let selecting := { sweeping with solver := { sweeping.solver with phase := .select } }
    let tiered := fun (r : SolRec) => { selecting with solver := { selecting.solver with work := [r] } }
    let rows := fun (r : SolRec) => (after .solveSelect (tiered r)).solver.workSelections
    taking.inReset = false ∧ taking.solver.phase = .take ∧ (after .solveTake taking).solver.work.length = 4 ∧
    ((placeOf hallTables.layout 2).kind = .exit ∧ (placeOf hallTables.layout 2).exitId = some 0 ∧ (exitEntry hall 0).zone < 64) ∧
    ((placeOf hallTables.layout 3).kind = .boundary ∧ (placeOf hallTables.layout 3).boundary = some 0 ∧
      (placeOf hallTables.layout 3).zone < 64) ∧
    (placeOf hallTables.layout 0).kind = .aisle ∧ (placeOf hallTables.layout 1).kind = .junction ∧
    selecting.inReset = false ∧ selecting.solver.phase = .select ∧
    (∀ r ∈ [⟨70, .target, none, some (.exit 0)⟩, SolRec.unreachable, ⟨90, .safe, some (.passage 0), some (.exit 0)⟩,
        ⟨90, .leastHarm, some (.passage 2), some (.exit 0)⟩], (rows r).length = 1) ∧
    (signOf hallTables.layout 0).faces[0]? = some (.passage 0) ∧
    (∀ w, w ∈ (signOf hallTables.layout 0).faces → some (Way.passage 2) ≠ some w) := by decide +kernel

/-- A first sweep, a last one that ends tier 1 with a place unreachable and with none, and the end of tier 2 with and without a balancing
round. -/
theorem witness_SweepsRouteAndEndTheirTier :
    let sn := snapshotOf hall
    let l := hallTables.layout
    let w0 := setupSafe sn l []
    let w3 := (sweepOnce sn l false (sweepOnce sn l false w0).work).work
    let far := sweepOnce { sn with routeCeiling := 100 } l false w0
    (sweeping.inReset = false ∧ sweeping.solver.phase = .safeSweep ∧ sweeping.solver.snapshot = some sn) ∧
    ((sweepOnce sn l false w0).changed = true ∧ sweeping.solver.tierSweeps < l.header.placeCount) ∧
    ((sweepOnce sn l false w3).changed = false ∧ (setupHarm sn l [] (markRouted .safe w3)).all SolRec.reached = true) ∧
    (far.changed = false ∧
      (setupHarm { sn with routeCeiling := 100 } l [] (markRouted .safe far.work)).all SolRec.reached = false) ∧
    (passagePenalty sn l false 1 = some 120 ∧ leads l 1 1 2 ∧ w0[1]? = some SolRec.unreachable ∧
      w0[2]? = some ⟨70, .target, none, some (.exit 0)⟩ ∧ 70 + (passageOf l 1).length + 120 ≤ sn.routeCeiling ∧
      (sweepOnce sn l false w0).work[1]? = some ⟨195, .none, some (.passage 1), some (.exit 0)⟩) ∧
    (∀ z ∈ [ZoneState.clear, .watch, .stale, .isolated, .smoke, .dense], ({ sn with zones := [z] }).zone 0 = z) ∧
    ((placeOf l 2).kind = .exit ∧ (placeOf l 2).exitId = some 0 ∧ (placeOf l 3).boundary = some 0 ∧
      sn.boundaries[0]? = some ⟨.unheard, 65535, .safe⟩ ∧ (w0.getD 1 SolRec.unreachable).cost = 65535 ∧
      (w0.getD 2 SolRec.unreachable).cost ≠ 65535) ∧
    (1 ≤ (sn.exit 0).entry.catchmentLimit ∧ (sn.exit 0).entry.catchmentLimit < catchment (markRouted .safe w3) 0 ∧
      0 < sn.balanceRounds ∧ sn.balanceRounds ≤ 2) ∧
    (∀ e, e < 32 → 1 ≤ (sn.exit e).entry.catchmentLimit → catchment w0 e ≤ (sn.exit e).entry.catchmentLimit) := by
  unfold leads; decide +kernel

/-- Travel over passage 1 to a TARGET at 70, by 5: from a TARGET, from beyond the ceiling and from an unreachable place; at a lower cost; at an
equal cost with CROSSING, a lower passage, this one and a higher one as the next; at a higher cost. -/
theorem witness_SweepsRouteAndEndTheirTier_travel :
    let goal : SolRec := ⟨70, .target, none, some (.exit 0)⟩
    let from0 := fun (ceiling : Nat) (r : SolRec) => travel ceiling 1 5 0 1 ⟨[r, goal], false⟩
    let near := fun (w : Way) => (⟨75, .none, some w, some (.boundary 0)⟩ : SolRec)
    (from0 100 goal).changed = false ∧ (from0 74 SolRec.unreachable).changed = false ∧
    (travel 100 1 5 0 1 ⟨[SolRec.unreachable, SolRec.unreachable], false⟩).changed = false ∧
    (∀ r ∈ [SolRec.unreachable, near .crossing, near (.passage 0)],
      from0 100 r = ⟨[{ r with cost := 75, next := some (.passage 1), target := some (.exit 0) }, goal], true⟩) ∧
    from0 100 (near (.passage 1)) = ⟨[⟨75, .none, some (.passage 1), some (.exit 0)⟩, goal], true⟩ ∧
    (from0 100 ⟨75, .none, some (.passage 1), some (.exit 0)⟩).changed = false ∧ (from0 100 (near (.passage 2))).changed = false ∧
    (from0 100 { near .crossing with cost := 74 }).changed = false := by decide +kernel

/-- A commit from no solution with a place unreachable, from a solution with one, with the pending flag clear and set. -/
theorem witness_CommitInstallsTheSolution :
    let c := { sweeping with solver := { sweeping.solver with phase := .commit } }
    let again := { c with solver := { c.solver with committed := some (solutionOf (snapshotOf hall) hallTables.layout c.solver), pending := true } }
    (∀ s ∈ [c, again], s.canonical = true ∧ s.inReset = false ∧ s.solver.phase = .commit ∧
      s.solver.snapshot = some (snapshotOf hall)) ∧
    noneCount c.solver = 0 ∧ 1 ≤ noneCount again.solver ∧ 0 < signsInUse c ∧
    exitPlace hallTables.layout 0 = some 2 ∧ exitPlace hallTables.layout 1 = none := by decide +kernel

/-- An exit priced above the route ceiling is a target in neither tier, though its entry and zone make it one in tier 1. -/
theorem test_exit_above_ceiling :
    (snapshotOf hall).exitTier 0 = 1 ∧ targetTier (snapshotOf hall) hallTables.layout [] 0 = 1 ∧
    targetTier { snapshotOf hall with routeCeiling := 69 } hallTables.layout [] 0 = 0 := by decide +kernel

/-- An ADVERT taken before the age timer's expiry has restarted it, so no expiry happens. -/
theorem test_advert_before_expiry :
    let due := setBoundaryRt hall 0 { BoundaryRt.reset with state := .live, heardCost := 30, age := some 0 }
    let heard := after (.telegramArrival (encodeTelegram ⟨255, 60, .ctl, false, 2, [7, 0, 30, 0]⟩)) due
    (boundaryRt heard 0).age = some 15000 ∧ after (.ageTimerExpiry 0) heard = heard ∧
    (boundaryRt (after (.ageTimerExpiry 0) due) 0).state = .expired := by decide +kernel

theorem witness_GenerationCountsCommits :
    let c := { sweeping with solver := { sweeping.solver with phase := .commit } }
    c.inReset = false ∧ c.solver.phase = .commit ∧ c.solver.snapshot.isSome = true ∧ hall.pending = [] ∧
    (Instr.layoutOpen ≠ .powerReset ∧ Instr.layoutOpen ≠ .pinReset ∧ Instr.layoutOpen ≠ .solveCommit) ∧
    (State.reset.inReset = true ∧ hall.solver.phase ≠ .commit ∧ hall.solver.snapshot = none) := by decide +kernel

theorem witness_RoutesAvoidSmokeAndDenseZones :
    let c := { sweeping with solver := { sweeping.solver with phase := .commit } }
    sweeping.lifecycle = true ∧ sweeping.workSound = true ∧ c.inReset = false ∧ c.workSound = true ∧ c.solver.phase = .commit ∧
    c.solver.snapshot = some (snapshotOf hall) ∧
    (∃ r ∈ c.solver.work, r.tier = .target) ∧ SolRec.over ⟨195, .safe, some (.passage 1), some (.exit 0)⟩ = some 1 ∧
      passageZones hallTables.layout 1 ≠ [] := by
  decide +kernel

/-- Desired absent; equal to the commanded one; another brightness; another face with the hold timer stopped, forced, and with the hold
timer running. -/
theorem witness_EvaluationFollowsTheTable :
    let sign := fun (d : Presentation) (t : Timer) => withSign { SignRt.reset with desired := some d, commanded := some (showing 0), hold := t } hall
    let home := { showing 0 with brightness := 4 }
    (∀ s ∈ [hall, sign (showing 0) none, sign home none, sign (showing 1) none, sign (showing 1) (some 1)], s.canonical = true) ∧
    ((signOf hall.tables.layout 0).faces[1 - 1]? = some (.passage 0) ∧ 1 ≤ commandedFace (some (showing 1))) ∧
    (signRt hall 0).desired = none ∧ (signRt (sign (showing 1) none) 0).desired = some (showing 1) ∧
    (signRt (sign (showing 1) none) 0).commanded = some (showing 0) ∧ home.face = commandedFace (some (showing 0)) ∧
    home.brightness ≠ (showing 0).brightness ∧ (showing 1).face ≠ commandedFace (some (showing 0)) ∧
    safetyForced (sign (showing 1) none) 0 (some (showing 0)) (showing 1) = false ∧
    safetyForced (sign (showing 1) none) 0 (some (showing 0)) { showing 1 with tier := .leastHarm, basis := .dark } = true ∧
    (signRt (sign (showing 1) none) 0).hold = none ∧ (signRt (sign (showing 1) (some 1)) 0).hold.isSome = true := by decide +kernel

/-- A HELD sign at its hold timer's expiry and one that already shows its face; the refresh and default timers; a refresh and a SHOW_DEFAULT
as the first sendable items. -/
theorem witness_SignTimersActAtExpiry :
    let held := withSign { SignRt.reset with desired := some (showing 1), commanded := some (showing 0), hold := some 0, held := true } hall
    let shown := withSign { SignRt.reset with desired := some (showing 0), commanded := some (showing 0), hold := some 0 } hall
    let due := { shown with signs := { shown.signs with refreshDue := true } }
    let running := { hall with signs := { hall.signs with refreshTimer := some 0 } }
    let bare := setZoneRt { live with signs := { live.signs with defaultTimer := some 0 } } 0 { ZoneRt.reset with smoke := true, derived := .smoke }
    let placed := { live with signs := { live.signs with defaultSlot := true } }
    (∀ s ∈ [held, shown], s.canonical = true ∧ s.inReset = false ∧ (signRt s 0).hold = some 0) ∧
    ((showing 1).face ≠ commandedFace (signRt held 0).commanded ∧
      safetyForced held 0 (signRt held 0).commanded (showing 1) = false ∧ 0 ∉ held.signs.forced ∧ 0 ∉ held.signs.ordinary) ∧
    samePresentation (showing 0) (showing 0) = true ∧
    (refreshRuns running = true ∧ running.signs.refreshTimer = some 0) ∧
    (defaultRuns bare = true ∧ bare.signs.defaultTimer = some 0 ∧ bare.inReset = false) ∧
    (due.canonical = true ∧ due.forward.tx = none ∧ due.portB.state.isUp = true ∧ firstSendable due = some (.sign (.refresh 0)) ∧
      (signRt due 0).commanded = some (showing 0)) ∧
    (placed.canonical = true ∧ placed.forward.tx = none ∧ placed.portB.state.isUp = true ∧
      firstSendable placed = some (.sign .showDefault)) ∧
    0 < signsInUse hall := by decide +kernel

/-- The conditions of the refresh and the default repeat timer hold and fail; a SHOW_DEFAULT taken while a sign has a commanded presentation. -/
theorem witness_SignTimersActAtExpiry_settle :
    let bare := setZoneRt live 0 { ZoneRt.reset with smoke := true, derived := .smoke }
    let shown := withSign { SignRt.reset with desired := some (showing 1), commanded := some (showing 0) } hall
    let placed := { shown with signs := { shown.signs with defaultSlot := true } }
    (refreshRuns hall = true ∧ refreshRuns live = false ∧ refreshRuns (inMode .maint hall) = false) ∧
    (defaultRuns bare = true ∧ defaultRuns live = false ∧ defaultRuns hall = false) ∧
    (placed.canonical = true ∧ firstSendable placed = some (.sign .showDefault) ∧ 0 < signsInUse placed ∧
      (signRt placed 0).commanded.isSome = true ∧ (after .arbiterTake placed).signs.forced = [0]) := by decide +kernel

/-- A confirm timer stopped, and one that expires with 0 and with 2 no-replies and in FAULTED; a STATUS that matches, and one that does not
with 0 and with 2 mismatches, from a unit of 3 at most. -/
theorem witness_SignsAreConfirmedOrFaulted :
    let sign := fun (n m : Nat) (x : SignState) =>
      withSign { SignRt.reset with commanded := some (showing 0), confirm := some 0, noReply := n, mismatch := m, state := x } hall
    let desired := withSign { SignRt.reset with desired := some (showing 1) } hall
    let head := { desired with signs := { desired.signs with forced := [0] } }
    (hall.inReset = false ∧ (signRt hall 0).confirm ≠ some 0) ∧
    (∀ s ∈ [sign 0 0 .awaiting, sign 2 0 .awaiting, sign 3 0 .faulted, sign 0 2 .awaiting], s.canonical = true ∧ s.inReset = false ∧
      (signRt s 0).confirm = some 0) ∧
    (signRt (sign 2 0 .awaiting) 0).state ≠ .faulted ∧ (signRt (sign 3 0 .faulted) 0).state = .faulted ∧
    (head.canonical = true ∧ head.forward.tx = none ∧ head.portB.state.isUp = true ∧
      firstSendable head = some (.sign (.head 0)) ∧ (signRt head 0).desired.isSome = true) ∧
    (signWith hall 200 0 = some 0 ∧ (signRt (sign 0 2 .awaiting) 0).commanded = some (showing 0) ∧ (0 : Byte).toNat ≤ 3) ∧
    ((0 : Byte).toNat = (showing 0).face ∧ (1 : Byte).toNat = signModeCode (showing 0).mode ∧ (1 : Byte).toNat ≠ (showing 0).face) := by
  decide +kernel

/-- A STATUS of three bytes, of a unit above 3 and of a node with no sign; one for a sign with no commanded presentation, with each health. -/
theorem witness_SignsAreConfirmedOrFaulted_status :
    let status := fun (source : Byte) (f : List Byte) => (⟨5, source, .sign, false, 3, f⟩ : Telegram)
    (status 200 [0, 1, 1]).payload.length < 4 ∧ 3 < (4 : Byte).toNat ∧ signWith hall 9 0 = none ∧
    hall.canonical = true ∧ signWith hall 200 0 = some 0 ∧ (signRt hall 0).commanded = none ∧ (signRt hall 0).lampFault = false ∧
    (∀ h ∈ [(0 : Byte), 1, 2], (signRt (takeStatus (status 200 [0, 1, 1, h]) hall) 0).confirmed = some (1, 1) ∧
      (causeRec (takeStatus (status 200 [0, 1, 1, h]) hall) 6).latched = decide (h = 1)) := by decide +kernel

/-- An age timer that expires; an ADVERT from the peer, new and as held, and from another node; the advert period; records of each tier
at a boundary's place. -/
theorem witness_AdvertsAreHeardSentAndExpire :
    let heard := setBoundaryRt hall 0 { BoundaryRt.reset with state := .live, heardCost := 30, age := some 0 }
    let period := { hall with boundaries := { hall.boundaries with period := some 0 } }
    (heard.canonical = true ∧ heard.inReset = false ∧ (boundaryRt heard 0).age = some 0) ∧
    boundaryWithId hall 7 = some 0 ∧ 60 = (boundaryOf hall.tables.layout 0).peer ∧ 61 ≠ (boundaryOf hall.tables.layout 0).peer ∧
    ((boundaryRt heard 0).state = .live ∧ (boundaryRt heard 0).heardCost = 30 ∧ (boundaryRt heard 0).heardTier = .safe) ∧
    (period.canonical = true ∧ period.inReset = false ∧ period.boundaries.period = some 0) ∧
    (hall.layout = .active ∧ (boundaryOf hall.tables.layout 0).defined = true ∧ (boundaryOf hall.tables.layout 0).place = 3) := by
  decide +kernel

/-- ADVERT payloads: too short, with an id of 0 and of 64, with a tier code of 2, of a boundary held and of none; one that arrives as a
broadcast; a commit. -/
theorem witness_AdvertsAreHeardSentAndExpire_payload :
    let advert := fun (f : List Byte) => (⟨255, 60, .ctl, false, 2, f⟩ : Telegram)
    let c := { sweeping with solver := { sweeping.solver with phase := .commit } }
    (∀ f ∈ [[(7 : Byte), 0, 30], [0, 0, 30, 0], [64, 0, 30, 0], [7, 0, 30, 2], [8, 0, 30, 0]], takeAdvert (advert f) hall = hall) ∧
    takeAdvert (advert [7, 0, 30, 0]) live = live ∧ (live.layout ≠ .active ∧ hall.layout = .active) ∧
    boundaryWithId hall 8 = none ∧ boundaryWithId hall 7 = some 0 ∧
    (∀ x ∈ [((0 : Byte), AdvertTier.safe), (1, .leastHarm)],
      boundaryRt (takeAdvert (advert [7, 0, 30, x.1]) hall) 0 = { BoundaryRt.reset with
        state := .live, heardCost := 30, heardTier := x.2, age := some 15000 }) ∧
    (hall.inReset = false ∧ addressed hall = true ∧ hall.node.address ≤ 250 ∧ hall.portA.state.isUp = true ∧
      parseTelegram (encodeTelegram (advert [7, 0, 30, 0])) = .good (advert [7, 0, 30, 0]) ∧
      (arrivalSlot hall (advert [7, 0, 30, 0])).isSome = true ∧ isOwn hall (advert [7, 0, 30, 0]) = false ∧
      isRetired hall (advert [7, 0, 30, 0]) = false) ∧
    (c.inReset = false ∧ c.solver.phase = .commit ∧ c.solver.snapshot.isSome = true) ∧
    (boundaryRt (after .solveCommit c) 0).computed = some ⟨65535, .safe⟩ := by decide +kernel

theorem witness_UpdateQueueStaysSound :
    let s := withSign { SignRt.reset with desired := some (showing 1) } hall
    let q := { s with signs := { s.signs with forced := [0] } }
    q.canonical = true ∧ q.signs.queueOnce ∧ q.queuePresent := by
  unfold Signs.queueOnce State.queuePresent; decide +kernel

/-- A broadcast entry and one of an unaddressed router; an unknown kind and an empty payload; a table that cannot be written; every short
payload; a completion response that is due. -/
theorem witness_RequestsAreAnswered :
    let due := { live with requests := { live.requests with completionDue := some ⟨9, [5, 0], true⟩ } }
    (⟨9, true, [8]⟩ : ReqEntry).broadcast = true ∧ (entry [8]).broadcast = false ∧ addressed live = true ∧
    addressed State.reset = false ∧
    (∀ p ∈ [[], [(0 : Byte)], [26]], Begins .unknownKind (entry p) (asked live p)) ∧
    (∀ p ∈ [[(3 : Byte), 9], [3, 255]], Begins .entryWriteOtherTable (entry p) (asked live p) ∧ fieldsOf (entry p) ≠ []) ∧
    (∀ x ∈ [(ReqRow.statusRead, [(1 : Byte)], 1), (.entryRead, [2, 0, 0], 3), (.entryWriteZone, [3, 0, 0, 0, 0, 2, 0], 7),
        (.entryWriteDetector, [3, 1, 0, 0, 0, 0, 0], 7), (.entryWriteExit, [3, 2, 0, 0, 0, 0, 0, 0, 0], 9),
        (.entryWriteParameter, [3, 3, 0, 0, 0], 5), (.entryWriteLayoutHeader, [3, 4, 0, 0, 0, 0, 0, 0], 8),
        (.entryWritePlace, [3, 5, 0, 0, 0, 0, 0], 7), (.entryWritePassage, [3, 6, 0, 0, 0, 0, 0, 0, 0], 9),
        (.entryWriteSign, [3, 7, 0, 0], 18), (.entryWriteBoundary, [3, 8, 0, 0], 9), (.entryWriteOtherTable, [3], 1), (.zoneReset, [9], 1),
        (.zoneIsolateBadSetting, [10, 0], 2), (.zoneConfirm, [11], 1), (.exitSet, [12, 0, 0, 0], 4), (.noticeSet, [17, 0, 0], 3),
        (.noticeClear, [18, 0], 2), (.counterSet, [19, 0, 0, 0, 0], 5)],
      Begins x.1 (entry x.2.1) (asked live x.2.1) ∧ (fieldsOf (entry x.2.1)).length < x.2.2) ∧
    (due.inReset = false ∧ due.requests.slot = none ∧ due.requests.completionDue = some ⟨9, [5, 0], true⟩) := by
  unfold Begins; decide +kernel

/-- The four installation writes with an entry in range: at the last index and beyond it, while the store saves, outside MAINT, with a field
out of range, and at a latched zone. -/
theorem witness_InstallationWritesAreJudgedInOrder :
    let maint := inMode .maint hall
    let saving := { maint with store := { maint.store with op := .save } }
    let latched := setZoneRt maint 0 { ZoneRt.reset with smoke := true }
    let good : List (ReqRow × Nat × List Byte) := [(.entryWriteZone, 64, [3, 0, 0, 63, 1, 8, 0, 1]), (.entryWriteDetector, 256, [3, 1, 0, 255, 250, 3, 0, 3]),
      (.entryWriteExit, 32, [3, 2, 0, 31, 1, 0, 0x03, 0xE8, 255, 4]), (.entryWriteParameter, 26, [3, 3, 0, 22, 0, 10])]
    (∀ x ∈ good, Begins x.1 (entry x.2.2) (asked maint x.2.2) ∧ at2 (fieldsOf (entry x.2.2)) 1 < x.2.1 ∧
      ∃ k ∈ installationCases (asked maint x.2.2) (at2 (fieldsOf (entry x.2.2)) 1) ((fieldsOf (entry x.2.2)).drop 3),
        k.row = x.1 ∧ k.bytes ≤ (fieldsOf (entry x.2.2)).length ∧ k.entries = x.2.1 ∧ k.bad = false ∧ k.latched = false) ∧
    (maint.canonical = true ∧ tablesBusy maint = false ∧ maint.mode.mode = .maint) ∧ tablesBusy saving = true ∧
    hall.mode.mode ≠ .maint ∧ zoneLatched latched 0 = true ∧
    (∀ p ∈ [[(3 : Byte), 0, 0, 64, 1, 2, 0, 0], [3, 0, 0, 0, 1, 9, 0, 0]], Begins .entryWriteZone (entry p) (asked maint p)) ∧
    acceptZone maint 0 [1, 9, 0, 0] = none ∧ (acceptZone maint 63 [1, 8, 0, 1]).isSome = true ∧
    ((acceptDetector maint 255 [250, 3, 0, 3]).isSome = true ∧
      ∀ d, acceptDetector maint 255 [250, 3, 0, 3] = some d → detectorLatched maint 255 d = false) ∧
    ((acceptExit maint 31 [1, 0, 0x03, 0xE8, 255, 4]).isSome = true ∧
      ∀ d, acceptExit maint 31 [1, 0, 0x03, 0xE8, 255, 4] = some d → exitLatched maint 31 d = false) ∧
    paramInRange 22 10 = true ∧ paramInRange 22 9 = false ∧ paramInRange 8 65534 = true ∧
    (maint.captures.timer = none ∧ maint.mode.startWait = false) := by
  refine ⟨by unfold Begins; decide +kernel, by decide +kernel, by decide +kernel, by decide +kernel, by decide +kernel,
    by unfold Begins; decide +kernel, by decide +kernel, by decide +kernel, ⟨by decide +kernel, ?_⟩, ⟨by decide +kernel, ?_⟩,
    by decide +kernel, by decide +kernel, by decide +kernel, by decide +kernel⟩
  · intro d h
    have e : acceptDetector (inMode .maint hall) 255 [250, 3, 0, 3] = some ⟨250, 3, 0, 3⟩ := by decide +kernel
    rw [e] at h; cases h; decide +kernel
  · intro d h
    have e : acceptExit (inMode .maint hall) 31 [1, 0, 0x03, 0xE8, 255, 4] = some ⟨true, 0, 1000, 255, 4⟩ := by decide +kernel
    rw [e] at h; cases h; decide +kernel

/-- The five layout writes with an entry in range: at the last index and beyond it, while the store saves, with the layout not EDITING, and
with a field out of range. -/
theorem witness_LayoutWritesStoreAndNothingElse :
    let editing := { inMode .maint hall with layout := .editing }
    (∀ x ∈ ([(.entryWriteLayoutHeader, [3, 4, 0, 0, 1, 0, 4, 0, 192]), (.entryWritePlace, [3, 5, 0, 255, 2, 63, 31, 255]),
        (.entryWritePassage, [3, 6, 3, 255, 255, 0, 255, 255, 2, 255]),
        (.entryWriteSign, [3, 7, 0, 191, 1, 3, 0, 4, 0, 0, 3, 255, 255, 254, 0, 1, 1, 4, 1]), (.entryWriteBoundary, [3, 8, 0, 7, 1, 63, 3, 60, 1, 244])] :
        List (ReqRow × List Byte)),
      Begins x.1 (entry x.2) (asked editing x.2) ∧
      ∃ k ∈ layoutCases editing.tables.layout (at2 (fieldsOf (entry x.2)) 1) ((fieldsOf (entry x.2)).drop 3),
        k.row = x.1 ∧ k.bytes ≤ (fieldsOf (entry x.2)).length ∧ at2 (fieldsOf (entry x.2)) 1 + 1 = k.entries ∧ k.stored.isSome = true) ∧
    (∀ p ∈ [[(3 : Byte), 8, 0, 8, 1, 63, 3, 60, 1, 244], [3, 8, 0, 7, 2, 63, 3, 60, 1, 244]],
      Begins .entryWriteBoundary (entry p) (asked editing p)) ∧ parseBoundaryEntry [2, 63, 3, 60, 1, 244] = none ∧
    tablesBusy editing = false ∧ editing.layout = .editing ∧ tablesBusy { editing with layout := .validating } = true ∧
    tablesBusy hall = false ∧ hall.layout ≠ .editing := by unfold Begins; decide +kernel

/-- Entries with every field at an end of its range. -/
theorem witness_EntriesReadBackAsWritten :
    (2 ≤ (⟨true, 8, true, true⟩ : ZoneEntry).denseQuorum ∧ (⟨true, 8, true, true⟩ : ZoneEntry).denseQuorum ≤ 8) ∧
    parseZoneEntry (zoneEntryBytes ⟨true, 8, true, true⟩) = some ⟨true, 8, true, true⟩ ∧
    ((zoneEntryBytes ⟨true, 8, true, true⟩).length = 4 ∧ (detectorEntryBytes ⟨250, 3, 63, 3⟩).length = 4 ∧
      (exitEntryBytes ⟨true, 63, 1000, 255, 4⟩).length = 6) ∧
    parseDetectorEntry (detectorEntryBytes ⟨250, 3, 63, 3⟩) = some ⟨250, 3, 63, 3⟩ ∧
    parseExitEntry (exitEntryBytes ⟨true, 63, 1000, 255, 4⟩) = some ⟨true, 63, 1000, 255, 4⟩ ∧
    parseHeader (headerBytes ⟨256, 1024, 192⟩) = some ⟨256, 1024, 192⟩ ∧
    parsePlaceEntry (placeEntryBytes ⟨.exit, 63, some 31, none⟩) = some ⟨.exit, 63, some 31, none⟩ ∧
    parsePlaceEntry (placeEntryBytes ⟨.boundary, 0, none, some 7⟩) = some ⟨.boundary, 0, none, some 7⟩ ∧
    parsePassageEntry (passageEntryBytes ⟨255, 0, 65535, .bToA, some 63⟩) = some ⟨255, 0, 65535, .bToA, some 63⟩ ∧
    parseSignEntry (signEntryBytes ⟨255, 3, 255, [.crossing, .passage 1023], 255, 0, true⟩) =
      some ⟨255, 3, 255, [.crossing, .passage 1023], 255, 0, true⟩ ∧
    parseBoundaryEntry (boundaryEntryBytes ⟨true, 255, 255, 255, 65535⟩) = some ⟨true, 255, 255, 255, 65535⟩ ∧
    Tab.wf PassageEntry.empty hallTables.layout.passages = true ∧ Tab.wf ZoneEntry.empty hallTables.zones = true ∧
    paramGet (paramSet Params.default 25 7) 25 = 7 ∧ paramGet (paramSet Params.default 25 7) 24 = 1000 := by decide +kernel

/-- Pages 0 to 3; a table that is none, an index beyond a range, an entry, a sign's record with and without an ACTIVE layout, and a solution
with and without one committed. -/
theorem witness_ReadsReturnTheTables :
    let done := { hall with solver := { hall.solver with committed := some (solutionOf (snapshotOf hall) hallTables.layout sweeping.solver) } }
    (∀ p ∈ [(0 : Byte), 1, 2, 3], Begins .statusRead (entry [1, p]) (asked hall [1, p])) ∧ 2 < (3 : Byte).toNat ∧
    (∀ f ∈ [[(0 : Byte), 0, 63], [0, 0, 64], [9, 0, 0], [250, 0, 0]], Begins .entryRead (entry (2 :: f)) (asked hall (2 :: f)) ∧
      fieldsOf (entry (2 :: f)) = f) ∧
    tableOfCode 0 = some .zone ∧ tableOfCode 250 = none ∧ beyondRange .zone 63 = false ∧ beyondRange .zone 64 = true ∧
    (match readEntry hall .zone 63 with | .ok _ => true | .error _ => false) = true ∧
    (match readEntry live .signRuntime 0 with | .ok _ => true | .error _ => false) = false ∧
    (live.layout ≠ .active ∧ hall.layout = .active ∧ hall.tables.layout.header.signCount = 1) ∧ hall.solver.committed = none ∧
    done.solver.committed = some (solutionOf (snapshotOf hall) hallTables.layout sweeping.solver) ∧
    (solutionOf (snapshotOf hall) hallTables.layout sweeping.solver).records.length = 4 := by
  unfold Begins; decide +kernel

/-- LAYOUT_OPEN while busy, in EDITING, outside MAINT and in MAINT, with a solve in flight and without; LAYOUT_CLOSE and LAYOUT_DISCARD. -/
theorem witness_LayoutIsOpenedClosedAndDiscarded :
    let maint := inMode .maint hall
    let editing := { maint with layout := .editing }
    (∀ s ∈ [maint, editing, hall, inMode .maint taking, { maint with layout := .validating }], s.canonical = true ∧
      Begins .layoutOpen (entry [4]) (asked s [4]) ∧ Begins .layoutClose (entry [5]) (asked s [5]) ∧
      Begins .layoutDiscard (entry [6]) (asked s [6])) ∧
    tablesBusy { maint with layout := .validating } = true ∧ (tablesBusy editing = false ∧ editing.layout = .editing) ∧
    (tablesBusy hall = false ∧ hall.layout ≠ .editing ∧ hall.mode.mode ≠ .maint) ∧
    (tablesBusy maint = false ∧ maint.layout ≠ .editing ∧ maint.mode.mode = .maint) ∧ taking.solver.phase ≠ .idle := by
  unfold Begins; decide +kernel

/-- A validation that passes and one that fails, with and without a fire path that waits; a reload with the image valid and not. -/
theorem witness_ValidationAndReloadEnd :
    let pass := { inMode .maint hall with layout := .validating, requests := { hall.requests with operation := some ⟨5, 9⟩ } }
    let fail := { pass with tables := { hallTables with layout := LayoutTables.empty } }
    let waits := fun (s : State) => { s with mode := { s.mode with fireWaiting := true } }
    let reload := { pass with layout := .reloading, store := ⟨.layoutReload, true, 0, true, Config.imageCheck hallTables, hallTables⟩ }
    let load := { pass with layout := .reloading, store := ⟨.load, true, 0, true, Config.imageCheck hallTables, hallTables⟩ }
    (∀ s ∈ [pass, fail], s.inReset = false ∧ s.layout = .validating ∧ s.mode.fireWaiting = false ∧ s.mode.mode = .maint ∧
      s.requests.operation = some ⟨5, 9⟩) ∧
    validate pass.tables = none ∧ validate fail.tables = some ⟨1, 4, 0⟩ ∧ (waits pass).mode.fireWaiting = true ∧
    (reload.inReset = false ∧ reload.store.op = .layoutReload ∧ reload.mode.fireWaiting = false ∧
      (reload.store.valid && imageValid reload.store true) = true ∧ (reload.store.valid && imageValid reload.store false) = false) ∧
    ((waits reload).canonical = true ∧ (waits reload).mode.mode = .maint ∧ (waits reload).mode.fireWaiting = true ∧
      (waits load).canonical = true ∧ (waits load).mode.mode = .maint ∧ (waits load).store.op = .load ∧
      imageValid load.store true = true ∧ imageValid load.store false = false) := by
  refine ⟨by decide +kernel, by decide +kernel, by decide +kernel, rfl, ⟨rfl, rfl, rfl, ?_, ?_⟩,
    by decide +kernel, rfl, rfl, by decide +kernel, rfl, rfl, imageValid_written .., ?_⟩ <;> simp

/-- The hall with its layout changed. -/
def changed (f : LayoutTables → LayoutTables) : Tables := { hallTables with layout := f hallTables.layout }

/-- Each check of Table 1-7 fails first in a hall with one entry changed: check 1 with 0 and 257 places and with no EXIT place. -/
theorem witness_ValidationAndReloadEnd_checks :
    ([changed (fun l => { l with header := ⟨0, 3, 1⟩ }), changed (fun l => { l with header := ⟨257, 3, 1⟩ }),
      changed (fun l => { l with places := [(1, ⟨.junction, 0, none, none⟩), (3, ⟨.boundary, 1, none, some 0⟩)] }),
      { hallTables with exits := [] },
      changed (fun l => { l with boundaries := [(0, ⟨true, 7, 2, 60, 4⟩)] }),
      changed (fun l => { l with header := ⟨4, 2, 1⟩ }),
      changed (fun l => { l with passages := [(0, ⟨0, 1, 5, .twoWay, none⟩), (1, ⟨1, 2, 5, .twoWay, none⟩), (2, ⟨1, 3, 0, .twoWay, none⟩)] }),
      changed (fun l => { l with boundaries := [(0, ⟨true, 64, 3, 60, 4⟩)] }),
      changed (fun l => { l with signs := [(0, ⟨200, 0, 0, [.passage 1], 1, 1, false⟩)] }), hallTables].map validate) =
    [some ⟨1, 4, 0⟩, some ⟨1, 4, 0⟩, some ⟨1, 5, 4⟩, some ⟨2, 5, 2⟩, some ⟨3, 5, 3⟩, some ⟨4, 5, 1⟩, some ⟨5, 6, 2⟩, some ⟨6, 8, 0⟩,
      some ⟨7, 7, 0⟩, none] := by decide +kernel

/-- STORE_SAVE and STORE_LOAD with the layout ACTIVE and not, while busy, outside MAINT, with a latched zone, with and without a valid image;
the ends of a save and of a load. -/
theorem witness_StoreSavesAndLoads :
    let maint := inMode .maint hall
    let valid := { maint with store := ⟨.idle, true, 0, true, Config.imageCheck hallTables, hallTables⟩ }
    let latched := setZoneRt valid 0 { ZoneRt.reset with smoke := true }
    let saving := { hall with store := { hall.store with op := .save } }
    let loading := { maint with layout := .reloading, store := ⟨.load, true, 0, true, Config.imageCheck hallTables, hallTables⟩ }
    (∀ s ∈ [hall, live, maint, valid, latched, saving, { valid with layout := .none }], Begins .storeSave (entry [22]) (asked s [22]) ∧
      Begins .storeLoad (entry [23]) (asked s [23])) ∧
    tablesBusy saving = true ∧ (tablesBusy hall = false ∧ hall.layout = .active ∧ hall.mode.mode ≠ .maint) ∧
    (tablesBusy live = false ∧ live.layout ≠ .active) ∧ (anyLatched latched = true ∧ anyLatched maint = false ∧ maint.store.valid = false) ∧
    (tablesBusy valid = false ∧ valid.mode.mode = .maint ∧ anyLatched valid = false ∧ valid.store.valid = true) ∧
    (saving.canonical = true ∧ saving.inReset = false ∧ saving.store.op = .save) ∧
    (loading.canonical = true ∧ loading.inReset = false ∧ loading.store.op = .load ∧ loading.mode.fireWaiting = false ∧
      imageValid loading.store true = true ∧ imageValid loading.store false = false) ∧
    (∀ z, z < 64 → 1 ≤ (Tab.read ZoneEntry.empty loading.store.image.zones z).denseQuorum) := by
  unfold Begins
  refine ⟨by decide +kernel, by decide +kernel, by decide +kernel, by decide +kernel, by decide +kernel, by decide +kernel,
    by decide +kernel, ⟨by decide +kernel, rfl, rfl, rfl, imageValid_written .., ?_⟩, by decide +kernel⟩
  simp

/-- RESTART while busy and not; Port A in training with a lane about to come up; the completion for a requester and for a broadcast. -/
theorem witness_RestartKeepsTheHazardMap :
    let training := { hall with portA := { PortA.reset [] with lane0 := ⟨.restoring, some 0, false⟩ } }
    let saving := { hall with store := { hall.store with op := .save } }
    let ending := fun (b : Bool) => { hall with requests := { hall.requests with restarting := true, queue := [⟨9, b, [25]⟩] } }
    (∀ s ∈ [hall, saving], s.canonical = true ∧ Begins .restart (entry [25]) (asked s [25])) ∧ tablesBusy saving = true ∧
    tablesBusy hall = false ∧
    (training.canonical = true ∧ training.inReset = false ∧ training.portA.state = .training ∧
      (training.portA.lane .lane0).state = .restoring ∧ (training.portA.lane .lane0).restore = some 0) ∧
    (∀ b ∈ [true, false], (ending b).inReset = false ∧ (ending b).requests.restarting = true ∧
      (ending b).requests.queue = [⟨9, b, [25]⟩]) ∧ addressed hall = true := by unfold Begins; decide +kernel

/-- NOTICE_SET and NOTICE_CLEAR with the highest set and with bit 13, a master enable of 2; an offer of a cause that is not maskable and of
one that is enabled. -/
theorem witness_NoticesAreEnabledClearedAndOffered :
    let panel := { live with tables := { live.tables with params := { live.tables.params with panelAddress := 9 } } }
    let one := { panel with notices := { panel.notices with causes := [(13, ⟨true, false, 0⟩)] } }
    let two := { panel with notices := { panel.notices with causes := [(12, ⟨true, true, 3⟩)], master := true } }
    live.canonical = true ∧ word16 0x1F 0xFF = 8191 ∧ word16 0x20 0 = 8192 ∧
    (∀ f ∈ [[(1 : Byte), 0x1F, 0xFF], [1, 0x20, 0], [2, 0, 0]], Begins .noticeSet (entry (17 :: f)) (asked live (17 :: f)) ∧
      fieldsOf (entry (17 :: f)) = f) ∧
    (∀ f ∈ [[(0x1F : Byte), 0xFF], [0x20, 0]], Begins .noticeClear (entry (18 :: f)) (asked live (18 :: f)) ∧
      fieldsOf (entry (18 :: f)) = f) ∧
    (live.inReset = false ∧ ({ live.notices with spacing := some 0 }).spacing = some 0) ∧
    noticeOffer one = some 13 ∧ noticeOffer two = some 12 := by unfold Begins; decide +kernel

/-- Captures with no, one and two slots filled; the parts of a read in each progress; a part above 2; the period timer. -/
theorem witness_CapturesAreTakenAndRead :
    let filled := fun (p : ReadProgress) => { live with captures := { live.captures with filled := [⟨0, captureOf .request live⟩], progress := p } }
    let both := { live with captures := { live.captures with filled := [⟨1, captureOf .request live⟩, ⟨0, captureOf .periodic live⟩] } }
    let timed := { live with captures := { live.captures with timer := some 0 } }
    ((captureOf .request live).zones.length = 64 ∧ (captureOf .request live).exits.length = 32 ∧ live.solver.committed = none) ∧
    live.canonical = true ∧ emptySlot live.captures.filled = some 0 ∧ emptySlot (filled .none).captures.filled = some 1 ∧
    emptySlot both.captures.filled = none ∧
    (∀ x ∈ [(ReqRow.captureTake, [(14 : Byte)]), (.incidentRelease, [16]), (.captureReadPart0, [15, 0]), (.captureReadPart1, [15, 1]),
      (.captureReadPart2, [15, 2]), (.captureReadBadPart, [15, 3])], Begins x.1 (entry x.2) (asked live x.2)) ∧
    (timed.inReset = false ∧ timed.captures.timer = some 0) ∧
    (live.captures.filled = [] ∧ (filled .none).captures.filled ≠ []) ∧
    ((filled .none).captures.progress ≠ .part0 ∧ (filled .part0).captures.progress = .part0 ∧ (filled .part1).captures.progress = .part1) ∧
    (readingCapture (filled .part0)).isSome = true ∧ (readingCapture (filled .part1)).isSome = true := by
  unfold Begins; decide +kernel

/-- COUNTER_SET at the ends of its ranges and beyond each; the reads and the controls. -/
theorem witness_CountersAreSetReadAndControlled :
    live.canonical = true ∧
    (∀ f ∈ [[(3 : Byte), 17, 15, 16, 1], [4, 0, 0, 0, 0], [0, 18, 0, 0, 0], [0, 0, 16, 0, 0], [0, 0, 0, 17, 0], [0, 0, 0, 0, 2]],
      Begins .counterSet (entry (19 :: f)) (asked live (19 :: f)) ∧ fieldsOf (entry (19 :: f)) = f) ∧
    (∀ x ∈ [(ReqRow.counterRead, [(20 : Byte)]), (.freeze, [21, 0]), (.unfreeze, [21, 1]), (.zeroAll, [21, 2]),
      (.clearOverflow, [21, 3]), (.counterControlBadAction, [21, 4])], Begins x.1 (entry x.2) (asked live x.2)) := by
  unfold Begins; decide +kernel

theorem witness_CanonicalFormIsKept : hall.canonical = true := by decide +kernel

/-- The bounds and the ranges: the hall, and a store whose image is the hall. -/
theorem witness_BuffersStayBounded : hall.portA.bounded = true ∧ hall.queuesBounded = true ∧ hall.addressInRange = true ∧
    ({ hall with store := { hall.store with image := hallTables } }).fieldsInRange = true := by decide +kernel

theorem witness_LifecycleAndTimersAreKept : hall.lifecycle = true ∧ State.reset.lifecycle = true ∧ State.reset.timersFollow := by
  refine ⟨by decide +kernel, by decide +kernel, by decide, by decide, by decide, ?_⟩
  intro c _
  cases c <;> rfl

/-- The three timers start: the beat timer at a grant, the refresh timer where MAINT is left, the default repeat timer where a zone becomes
DENSE with no layout. -/
theorem witness_LifecycleAndTimersAreKept_start :
    let down := { hall with portB := { PortB.reset with lane0Up := true } }
    let maint := asked (inMode .maint hall) [7, 1]
    let bare := asked live [11, 0]
    (∀ s ∈ [down, maint, bare], s.inReset = false) ∧
    (beatRuns down = false ∧ beatRuns (after (.creditGrant 2 2 2 2 8) down) = true) ∧
    (refreshRuns maint = false ∧ refreshRuns (after .modeSetStandby maint) = true) ∧
    (defaultRuns bare = false ∧ defaultRuns (after .zoneConfirm bare) = true) := by decide +kernel

end Sys2Proof.Tests
end

section
/-! The frame of a step: how frames of operations are composed, and that the end of a step keeps every part. -/

namespace Sys2Proof.Machine

/-- What is the same over two operations is the same over both. -/
theorem Part.same_trans {p : Part} {s t u : State} (h : p.same s t) (k : p.same t u) : p.same s u := by
  cases p <;> simp_all [Part.same]

/-- The frame of two operations names the parts of each. -/
theorem KeepsAllBut.trans {ps qs : List Part} {s t u : State} (h : KeepsAllBut ps s t) (k : KeepsAllBut qs t u) :
    KeepsAllBut (ps ++ qs) s u :=
  fun p hp => Part.same_trans (h p fun hm => hp (List.mem_append_left qs hm)) (k p fun hm => hp (List.mem_append_right ps hm))

/-- A frame may name more parts. -/
theorem KeepsAllBut.mono {ps qs : List Part} {s t : State} (h : KeepsAllBut ps s t) (hs : ps ⊆ qs) : KeepsAllBut qs s t :=
  fun p hp => h p (fun hm => hp (hs hm))

/-- The beats that the end of a step starts and stops are outside every part. -/
theorem Part.same_settleBeat (p : Part) (b s : State) : p.same s (settleBeat b s) := by
  unfold settleBeat
  repeat' split
  all_goals cases p <;> simp [Part.same, placeBeat, startBeatTimer]

/-- The refresh timer is outside every part. -/
theorem Part.same_settleRefresh (p : Part) (b s : State) : p.same s (settleRefresh b s) := by
  unfold settleRefresh
  repeat' split
  all_goals cases p <;> simp [Part.same]

/-- The default repeat timer is outside every part. -/
theorem Part.same_settleDefault (p : Part) (b s : State) : p.same s (settleDefault b s) := by
  unfold settleDefault
  repeat' split
  all_goals cases p <;> simp [Part.same]

/-- The stall records are outside every part. -/
theorem Part.same_settleStalls (p : Part) (s : State) : p.same s (settleStalls s) := by
  cases p <;> simp [Part.same, settleStalls]

/-- The end of a step keeps every part (log 30). -/
theorem Part.same_settle (p : Part) (b s : State) : p.same s (settle b s) :=
  have beat := p.same_settleBeat b s
  have refresh := Part.same_trans beat (p.same_settleRefresh b _)
  have repeated := Part.same_trans refresh (p.same_settleDefault b _)
  Part.same_trans repeated (p.same_settleStalls _)

/-- The frame of an effect is the frame of its step. -/
theorem KeepsAllBut.settled {ps : List Part} {s t : State} (h : KeepsAllBut ps s t) (b : State) : KeepsAllBut ps s (settle b t) :=
  fun p hp => Part.same_trans (h p hp) (p.same_settle b t)

end Sys2Proof.Machine
end

section
/-! The address: what taking the straps changes, and the drop of the retired address. -/

namespace Sys2Proof.Machine

/-- A due set emptied leaves each boundary its record, no longer due. -/
theorem boundaryRt_clearDue (s : State) (h : Tab.wf BoundaryRt.reset s.boundaries.records = true) (b : Nat) (hb : b < 8) :
    boundaryRt (clearDue s) b = { boundaryRt s b with due := false } := by
  have hr := Tab.read_updateAll BoundaryRt.reset Config.boundaryCount (fun _ r => { r with due := false }) s.boundaries.records h b
  simpa [boundaryRt, clearDue, hb] using hr

/-- With no response in its slot the router drops, as it becomes unaddressed, its due set, its SHOW_DEFAULT and its resend slot. -/
theorem dropOwn_of_slot_none {s : State} (h : s.requests.slot = none) :
    dropOwn s = { s with boundaries := (clearDue s).boundaries
                         signs := { s.signs with defaultSlot := false }
                         forward := { s.forward with resend := none } } := by
  have hd : dropResponse (clearDue s) = clearDue s := by simp [dropResponse, h]
  simp only [dropOwn, hd]
  rfl

/-- Another address than 0 retires the old one and empties the round check list. -/
theorem changeAddress_addressed {a : Nat} (h : a ≠ 0) (s : State) :
    changeAddress a s = { s with cadence := { s.cadence with round := [] }
                                 node := { s.node with address := a, retired := retire s.node.address } } := by
  simp [changeAddress, h]

/-- Becoming unaddressed drops what the router offers beside. -/
theorem changeAddress_unaddressed {s : State} (h : s.requests.slot = none) :
    changeAddress 0 s = { s with cadence := { s.cadence with round := [] }
                                 node := { s.node with address := 0, retired := retire s.node.address }
                                 boundaries := (clearDue s).boundaries
                                 signs := { s.signs with defaultSlot := false }
                                 forward := { s.forward with resend := none } } := by
  simp [changeAddress, dropOwn_of_slot_none h]

/-- A row begins a request only with the response slot empty (R165). -/
theorem Begins.slot_none {row : ReqRow} {e : ReqEntry} {s : State} (h : Begins row e s) : s.requests.slot = none := by
  obtain ⟨_, hfree, _, _⟩ := h
  simp only [handlerFree, Bool.and_eq_true, Option.isNone_iff_eq_none] at hfree
  exact hfree.1.1

/-- ADDRESS_TAKE begun answers the strap address with the effect of its body. -/
theorem answers_addressTake {e : ReqEntry} {s : State} (straps : Byte) (h : Begins .addressTake e s) :
    Answers (.addressTake straps) s e .ok [byte (strapAddress straps)] (addressTakeBody straps s).state :=
  run_request (plain (addressTakeBody straps)) h

/-- The straps as they are read, before the address they give is compared with the one held. -/
def withStraps (straps : Byte) (s : State) : State := { s with node := { s.node with straps := straps } }

/-- Straps that give the address held change nothing but the straps read. -/
theorem addressTakeBody_held {straps : Byte} {s : State} (h : s.node.address = strapAddress straps) :
    (addressTakeBody straps s).state = withStraps straps s := by
  simp [addressTakeBody, withStraps, h]

/-- Straps that give another address change the address. -/
theorem addressTakeBody_other {straps : Byte} {s : State} (h : s.node.address ≠ strapAddress straps) :
    (addressTakeBody straps s).state = changeAddress (strapAddress straps) (withStraps straps s) := by
  simp [addressTakeBody, withStraps, h.symm]

/-- The drop of a retired address that has run out. -/
theorem exec_retiredAddressDrop {s : State} (hs : s.inReset = false) {a : Nat} (ha : s.node.retired = some ⟨a, some 0⟩) :
    exec .retiredAddressDrop s = .next (settle s { s with node := { s.node with retired := none } }) := by
  have hout : retiredRanOut s = true := (retiredRanOut_iff s).2 ⟨a, ha⟩
  have hrun : exec .retiredAddressDrop s =
      run s (fun s => if retiredRanOut s then { s with node := { s.node with retired := none } } else s) := rfl
  rw [hrun, run_running s _ hs, if_pos hout]

/-- Reading the straps moves node addressing alone. -/
theorem withStraps_keeps (straps : Byte) (s : State) : KeepsAllBut [.node] s (withStraps straps s) := by
  intro p hp
  cases p <;> simp_all [Part.same, withStraps]

/-- Another address than 0 moves node addressing and the round check list alone. -/
theorem changeAddress_addressed_keeps {a : Nat} (h : a ≠ 0) (s : State) : KeepsAllBut [.node, .cadence] s (changeAddress a s) := by
  rw [changeAddress_addressed h]
  intro p hp
  cases p <;> simp_all [Part.same]

/-- Becoming unaddressed with no response in its slot leaves the request handler as it was. -/
theorem changeAddress_unaddressed_keeps {s : State} (h : s.requests.slot = none) :
    KeepsAllBut [.node, .cadence, .forward, .signs, .boundaries] s (changeAddress 0 s) := by
  rw [changeAddress_unaddressed h]
  intro p hp
  cases p <;> simp_all [Part.same]

/-- The drop of the retired address moves node addressing alone. -/
theorem dropRetired_keeps (s : State) : KeepsAllBut [.node] s { s with node := { s.node with retired := none } } := by
  intro p hp
  cases p <;> simp_all [Part.same]

/-- Settles O25: straps that give the address held, another address, or none, by what an address change does in each. -/
theorem addressTakeReadsTheStraps : Obligations.AddressTakeReadsTheStraps := by
  refine ⟨fun e s straps hcan hb => ⟨_, answers_addressTake straps hb, rfl, ?_⟩, fun s hs a ha => ?_⟩
  · obtain ⟨_, _, _, _, _, _, hwf, _, _⟩ := s.canonical_iff.1 hcan
    have hkeep := withStraps_keeps straps s
    by_cases held : s.node.address = strapAddress straps
    · rw [addressTakeBody_held held]
      exact ⟨rfl, held, rfl, fun _ => ⟨rfl, hkeep⟩, fun h => absurd held h⟩
    · rw [addressTakeBody_other held]
      by_cases zero : strapAddress straps = 0
      · have hslot : (withStraps straps s).requests.slot = none := hb.slot_none
        have hall := hkeep.trans (changeAddress_unaddressed_keeps hslot)
        rw [zero] at held ⊢
        rw [changeAddress_unaddressed hslot] at hall ⊢
        exact ⟨rfl, rfl, rfl, fun h => absurd h held, fun _ => ⟨rfl, rfl, fun h => absurd rfl h, fun _ =>
          ⟨rfl, rfl, rfl, rfl, rfl, boundaryRt_clearDue (withStraps straps s) hwf, hall.mono (by simp)⟩⟩⟩
      · have hall := hkeep.trans (changeAddress_addressed_keeps zero (withStraps straps s))
        rw [changeAddress_addressed zero] at hall ⊢
        exact ⟨rfl, rfl, rfl, fun h => absurd h held, fun _ => ⟨rfl, rfl, fun _ => hall.mono (by simp), fun h => absurd h zero⟩⟩
  · exact ⟨_, exec_retiredAddressDrop hs ha, by simp, (dropRetired_keeps s).settled s⟩

end Sys2Proof.Machine
end

section
/-! Arrivals: an arrival's part at the ports and the forward path stands beside what is counted and taken of it, which reads neither. -/

namespace Sys2Proof.Machine

/-! ### Ports and forward path apart from the rest -/

/-- The router with its ports and its forward path replaced. -/
def withLoop (a : PortA) (b : PortB) (f : Forward) (s : State) : State := { s with portA := a, portB := b, forward := f }

/-- Replacing the ports and the forward path moves nothing else. -/
theorem withLoop_keeps (a : PortA) (b : PortB) (f : Forward) (s : State) :
    KeepsAllBut [.portA, .portB, .forward] s (withLoop a b f s) := by
  intro p hp
  cases p <;> simp_all [Part.same, withLoop]

/-- With Port B and the forward path as they were, Port A alone is moved. -/
theorem withLoop_keeps_portA (a : PortA) {b : PortB} {f : Forward} {s : State} (hb : s.portB = b) (hf : s.forward = f) :
    KeepsAllBut [.portA] s (withLoop a b f s) := by
  intro p hp
  cases p <;> simp_all [Part.same, withLoop]

/-- A counter adds without reading the ports. -/
theorem tallyOne_withLoop (g : Counter → Nat) (a : PortA) (b : PortB) (f : Forward) (s : State) (i : Nat) :
    tallyOne g (withLoop a b f s) i = withLoop a b f (tallyOne g s i) := by
  simp only [tallyOne, apply_ite (withLoop a b f)]
  rfl

/-- An occurrence is counted without reading the ports. -/
theorem tally_withLoop (g : Counter → Nat) (a : PortA) (b : PortB) (f : Forward) (s : State) :
    tally g (withLoop a b f s) = withLoop a b f (tally g s) := by
  have hfold : [0, 1, 2, 3].foldl (tallyOne g) (withLoop a b f s) = withLoop a b f ([0, 1, 2, 3].foldl (tallyOne g) s) :=
    List.foldl_hom (withLoop a b f) (fun t i => tallyOne_withLoop g a b f t i)
  have hfreeze : tallyFreezes g (withLoop a b f s) = tallyFreezes g s := rfl
  have hfrozen : (withLoop a b f s).counters = s.counters := rfl
  simp only [tally, hfold, hfreeze, hfrozen, apply_ite (withLoop a b f)]
  rfl

/-- An event is counted without reading the ports. -/
theorem count_withLoop (ev : CounterEvent) (c : Option TClass) (a : PortA) (b : PortB) (f : Forward) (s : State) :
    count ev c (withLoop a b f s) = withLoop a b f (count ev c s) :=
  tally_withLoop _ a b f s

/-- A REQUEST joins the queue without reading the ports. -/
theorem enqueueRequest_withLoop (m : Telegram) (x : Bool) (a : PortA) (b : PortB) (f : Forward) (s : State) :
    enqueueRequest m x (withLoop a b f s) = withLoop a b f (enqueueRequest m x s) := by
  simp only [enqueueRequest, count_withLoop, apply_ite (withLoop a b f)]
  rfl

/-- A sign enters FAULTED without reading the ports. -/
theorem faultCheck_withLoop (i : Nat) (a : PortA) (b : PortB) (f : Forward) (s : State) :
    faultCheck i (withLoop a b f s) = withLoop a b f (faultCheck i s) := by
  simp only [faultCheck, apply_ite (withLoop a b f)]
  rfl

/-- A status is compared without reading the ports. -/
theorem compareStatus_withLoop (i : Nat) (face mode : Byte) (a : PortA) (b : PortB) (f : Forward) (s : State) :
    compareStatus i face mode (withLoop a b f s) = withLoop a b f (compareStatus i face mode s) := by
  have hr : signRt (withLoop a b f s) i = signRt s i := rfl
  have hset : ∀ r, setSignRt (withLoop a b f s) i r = withLoop a b f (setSignRt s i r) := fun _ => rfl
  simp only [compareStatus, hr, hset, count_withLoop, faultCheck_withLoop]
  split
  · rfl
  · exact (apply_ite (withLoop a b f) _ _ _).symm

/-- A lamp fault is noted without reading the ports. -/
theorem lampStatus_withLoop (i : Nat) (health : Byte) (a : PortA) (b : PortB) (f : Forward) (s : State) :
    lampStatus i health (withLoop a b f s) = withLoop a b f (lampStatus i health s) := by
  simp only [lampStatus, apply_ite (withLoop a b f)]
  rfl

/-- A STATUS is taken without reading the ports. -/
theorem takeStatus_withLoop (m : Telegram) (a : PortA) (b : PortB) (f : Forward) (s : State) :
    takeStatus m (withLoop a b f s) = withLoop a b f (takeStatus m s) := by
  have hw : ∀ x y, signWith (withLoop a b f s) x y = signWith s x y := fun _ _ => rfl
  have hset : ∀ i r, setSignRt (withLoop a b f s) i r = withLoop a b f (setSignRt s i r) := fun _ _ => rfl
  unfold takeStatus
  split
  · simp only [hw, hset, compareStatus_withLoop, lampStatus_withLoop]
    split <;> rfl
  · rfl

/-- A telegram to the router is taken without reading the ports. -/
theorem takeAddressed_withLoop (m : Telegram) (a : PortA) (b : PortB) (f : Forward) (s : State) :
    takeAddressed m (withLoop a b f s) = withLoop a b f (takeAddressed m s) := by
  simp only [takeAddressed, enqueueRequest_withLoop, takeStatus_withLoop, apply_ite (withLoop a b f)]
  rfl

/-- A trigger reaches the solver without reading the ports. -/
theorem solveTrigger_withLoop (x : Bool) (a : PortA) (b : PortB) (f : Forward) (s : State) :
    solveTrigger x (withLoop a b f s) = withLoop a b f (solveTrigger x s) := by
  have hrestart : restartSolve (withLoop a b f s) = withLoop a b f (restartSolve s) := by
    simp only [restartSolve, ← count_withLoop]
    rfl
  simp only [solveTrigger, hrestart, apply_ite (withLoop a b f)]
  rfl

/-- A matched ADVERT is heard without reading the ports. -/
theorem advertMatched_withLoop (k cost : Nat) (tier : AdvertTier) (a : PortA) (b : PortB) (f : Forward) (s : State) :
    advertMatched k cost tier (withLoop a b f s) = withLoop a b f (advertMatched k cost tier s) := by
  have hset : ∀ r, setBoundaryRt (withLoop a b f s) k r = withLoop a b f (setBoundaryRt s k r) := fun _ => rfl
  have hr : boundaryRt (withLoop a b f s) k = boundaryRt s k := rfl
  have hage : advertLifetime (withLoop a b f s) = advertLifetime s := rfl
  simp only [advertMatched, hset, hr, hage, solveTrigger_withLoop, apply_ite (withLoop a b f)]

/-- An ADVERT is matched without reading the ports. -/
theorem matchAdvert_withLoop (source id cost : Nat) (tier : AdvertTier) (a : PortA) (b : PortB) (f : Forward) (s : State) :
    matchAdvert source id cost tier (withLoop a b f s) = withLoop a b f (matchAdvert source id cost tier s) := by
  have hid : boundaryWithId (withLoop a b f s) id = boundaryWithId s id := rfl
  unfold matchAdvert
  rw [hid]
  cases boundaryWithId s id with
  | none => rfl
  | some k =>
    simp only [advertMatched_withLoop, count_withLoop, apply_ite (withLoop a b f)]
    rfl

/-- An ADVERT is taken without reading the ports. -/
theorem takeAdvert_withLoop (m : Telegram) (a : PortA) (b : PortB) (f : Forward) (s : State) :
    takeAdvert m (withLoop a b f s) = withLoop a b f (takeAdvert m s) := by
  have hl : (withLoop a b f s).layout = s.layout := rfl
  unfold takeAdvert
  split
  · rw [hl, apply_ite (withLoop a b f)]
    simp only [matchAdvert_withLoop]
    split
    · split <;> rfl
    · rfl
  · rfl

/-- A broadcast is taken without reading the ports. -/
theorem takeBroadcast_withLoop (m : Telegram) (a : PortA) (b : PortB) (f : Forward) (s : State) :
    takeBroadcast m (withLoop a b f s) = withLoop a b f (takeBroadcast m s) := by
  simp only [takeBroadcast, enqueueRequest_withLoop, takeAdvert_withLoop, apply_ite (withLoop a b f)]
  rfl

end Sys2Proof.Machine
end

section
/-! What an arrival with a credit outstanding and a slot free does at the ports. -/

namespace Sys2Proof.Machine

/-! ### The slot taken and freed -/

/-- Port A with the telegram in slot `n`, its credit used, waiting or not. -/
def arrived (s : State) (m : Telegram) (n : Nat) (w : Bool) : PortA :=
  { (seeTelegram s).portA with
    outstanding := s.portA.outstanding.put (creditOf m.shared m.cls) (s.portA.outstanding.count (creditOf m.shared m.cls) - 1)
    pool := s.portA.pool ++ [⟨n, m.shared, m, w⟩] }

/-- Port A with the telegram's slot freed again and its credit returned. -/
def released (s : State) (m : Telegram) : PortA :=
  { (seeTelegram s).portA with returns := .credit (creditOf m.shared m.cls) :: s.portA.returns }

/-- An arrival fills its slot and moves Port A alone. -/
theorem fillSlot_seeTelegram (s : State) (m : Telegram) (n : Nat) :
    fillSlot n m (seeTelegram s) = withLoop (arrived s m n false) s.portB s.forward s := rfl

/-- A slot is taken under an outstanding credit, and no telegram stands in it. -/
theorem arrivalSlot_free {s : State} {m : Telegram} {n : Nat} (h : arrivalSlot s m = some n) :
    0 < s.portA.outstanding.count (creditOf m.shared m.cls) ∧ ∀ p ∈ s.portA.pool, p.index ≠ n := by
  unfold arrivalSlot at h
  split at h
  · exact nomatch h
  · next hc =>
    have hfree := List.find?_some h
    exact ⟨Nat.pos_of_ne_zero hc, by simpa using hfree⟩

/-- Of two counts put for one kind of credit the later stands. -/
theorem Credits.put_put (c : Credits) (k : CreditKind) (x y : Nat) : (c.put k x).put k y = c.put k y := by
  cases k with
  | dedicated t => cases t <;> rfl
  | shared => rfl

/-- The count put is the count held. -/
theorem Credits.count_put (c : Credits) (k : CreditKind) (x : Nat) : (c.put k x).count k = x := by
  cases k with
  | dedicated t => cases t <;> rfl
  | shared => rfl

/-- Putting the count held changes nothing. -/
theorem Credits.put_count (c : Credits) (k : CreditKind) : c.put k (c.count k) = c := by
  cases k with
  | dedicated t => cases t <;> rfl
  | shared => rfl

/-- Freeing the slot just taken leaves of the arrival the credit returned (R150). -/
theorem freeSlot_arrived {s : State} {m : Telegram} {n : Nat} (hup : s.portA.state.isUp = true) (hn : arrivalSlot s m = some n) :
    freeSlot n (withLoop (arrived s m n false) s.portB s.forward s) = withLoop (released s m) s.portB s.forward s := by
  obtain ⟨hpos, hfree⟩ := arrivalSlot_free hn
  have hfind : (arrived s m n false).pool.find? (fun p => decide (p.index = n)) = some ⟨n, m.shared, m, false⟩ := by
    rw [arrived]
    dsimp only
    rw [List.find?_append, List.find?_eq_none.2 (by simpa using hfree)]
    simp
  have hrest : (arrived s m n false).pool.filter (fun q => decide (q.index ≠ n)) = s.portA.pool := by
    rw [arrived]
    dsimp only
    rw [List.filter_append, List.filter_eq_self.2 (by simpa using hfree)]
    simp
  have hout : ∀ c : Credits, ∀ k, 0 < c.count k → (c.put k (c.count k - 1)).put k ((c.put k (c.count k - 1)).count k + 1) = c := by
    intro c k hk
    rw [Credits.count_put, Credits.put_put, Nat.sub_add_cancel hk, Credits.put_count]
  have hstate : (arrived s m n false).state.isUp = true := hup
  have hback : (arrived s m n false).outstanding.put (creditOf m.shared m.cls)
      ((arrived s m n false).outstanding.count (creditOf m.shared m.cls) + 1) = s.portA.outstanding := hout _ _ hpos
  simp only [freeSlot, withLoop, hfind, hrest, hstate, if_true, returnCredit, hback]
  rfl

/-! ### The telegram passed to Port B -/

/-- The forward queue is read from the pool's waiting slots. -/
theorem forwardQueue_arrived (s : State) (m : Telegram) (n : Nat) (b : PortB) (f : Forward) :
    forwardQueue (withLoop (arrived s m n false) b f s) = forwardQueue s := by
  simp [forwardQueue, withLoop, arrived]

/-- A telegram that does not wait yet is nothing to send. -/
theorem firstSendable_arrived (s : State) (m : Telegram) (n : Nat) :
    firstSendable (withLoop (arrived s m n false) s.portB s.forward s) = firstSendable s := by
  have hq := forwardQueue_arrived s m n s.portB s.forward
  unfold firstSendable sideA
  rw [hq]
  rfl

/-- Whether a class is cut through is not changed by the slot taken. -/
theorem cutsThrough_arrived (s : State) (m : Telegram) (n : Nat) (c : TClass) :
    cutsThrough (withLoop (arrived s m n false) s.portB s.forward s) c = cutsThrough s c := by
  unfold cutsThrough
  rw [forwardQueue_arrived, firstSendable_arrived]
  rfl

/-- The telegram in the slot just taken is set waiting or not. -/
theorem setWaiting_arrived {s : State} {m : Telegram} {n : Nat} (hn : arrivalSlot s m = some n) (v w : Bool) (b : PortB) (f : Forward) :
    setWaiting n w (withLoop (arrived s m n v) b f s) = withLoop (arrived s m n w) b f s := by
  obtain ⟨_, hfree⟩ := arrivalSlot_free hn
  have hrest : s.portA.pool.map (fun p => if p.index = n then { p with waiting := w } else p) = s.portA.pool := by
    exact (List.map_congr_left fun p hp => if_neg (hfree p hp)).trans (List.map_id' _)
  simp [setWaiting, withLoop, arrived, hrest]

/-- The forward path with a telegram of the pool in transmission, the turn passed unless it is HAZ. -/
def sending (s : State) (m : Telegram) (n : Nat) : Forward :=
  { (transmit m (some n) s).forward with turn := if m.cls = .haz then s.forward.turn else .b }

/-- The telegram in the slot just taken enters transmission (R154, R155). -/
theorem takeForwarded_arrived {s : State} {m : Telegram} {n : Nat} (hn : arrivalSlot s m = some n) (x w : Bool) :
    takeForwarded ⟨n, x, m, w⟩ (withLoop (arrived s m n false) s.portB s.forward s) =
      withLoop (arrived s m n false) (transmit m (some n) s).portB (sending s m n) (count .forwarded (some m.cls) s) := by
  have htx : transmit m (some n) (withLoop (arrived s m n false) s.portB s.forward s) =
      withLoop (arrived s m n false) (transmit m (some n) s).portB (transmit m (some n) s).forward s := rfl
  simp only [takeForwarded, htx, setWaiting_arrived hn, count_withLoop, sending]
  split <;> rfl

/-- The router with the forwarding of an arrival counted (R154, log 36). -/
def passed (s : State) (c : TClass) : State :=
  if cutsThrough s c = true then count .cutThrough (some c) (count .forwarded (some c) s) else count .queued (some c) s

/-- A telegram that is not cut through waits at the tail of the forward queue. -/
theorem forwardSlot_queued {s : State} {m : Telegram} {n : Nat} (hn : arrivalSlot s m = some n) (hc : cutsThrough s m.cls = false) :
    forwardSlot n m.shared m (withLoop (arrived s m n false) s.portB s.forward s) =
      withLoop (arrived s m n true) s.portB s.forward (passed s m.cls) := by
  rw [forwardSlot, cutsThrough_arrived, setWaiting_arrived hn, count_withLoop]
  simp [passed, hc]

/-- A telegram that is cut through is in transmission and does not wait. -/
theorem forwardSlot_cut {s : State} {m : Telegram} {n : Nat} (hn : arrivalSlot s m = some n) (hc : cutsThrough s m.cls = true) :
    forwardSlot n m.shared m (withLoop (arrived s m n false) s.portB s.forward s) =
      withLoop (arrived s m n false) (transmit m (some n) s).portB (sending s m n) (passed s m.cls) := by
  rw [forwardSlot, cutsThrough_arrived, takeForwarded_arrived hn, count_withLoop]
  simp [passed, hc]

end Sys2Proof.Machine
end

section
/-! How an arrival with a slot free is sorted: stripped, taken, or passed to Port B and taken of beside. -/

namespace Sys2Proof.Machine

/-! ### What is passed to Port B -/

/-- Port A, Port B and the forward path after a telegram in slot `n` has been passed to Port B: it waits, or is in transmission under a
credit taken as the arbiter takes one (R152, R154). -/
structure Forwarding (s : State) (m : Telegram) (n : Nat) (a : PortA) (b : PortB) (f : Forward) : Prop where
  outstanding : a.outstanding =
    s.portA.outstanding.put (creditOf m.shared m.cls) (s.portA.outstanding.count (creditOf m.shared m.cls) - 1)
  returns : a.returns = s.portA.returns
  resend : f.resend = s.forward.resend
  queued : cutsThrough s m.cls = false → a.pool = s.portA.pool ++ [⟨n, m.shared, m, true⟩] ∧ b = s.portB ∧ f = s.forward
  cut : cutsThrough s m.cls = true → a.pool = s.portA.pool ++ [⟨n, m.shared, m, false⟩] ∧
    f.tx = some ⟨{ m with shared := decide (s.portB.credits.ded.get m.cls = 0) }, some n⟩ ∧
    b = { s.portB with credits :=
      if 0 < s.portB.credits.ded.get m.cls then
        { s.portB.credits with ded := s.portB.credits.ded.set m.cls (s.portB.credits.ded.get m.cls - 1) }
      else { s.portB.credits with shared := s.portB.credits.shared - 1 } } ∧
    f.turn = (if m.cls = .haz then s.forward.turn else .b) ∧ (f.stalls.get m.cls).episode = false

/-- The value set for a class is the value held. -/
theorem PerClass.get_set {α : Type} (p : PerClass α) (c : TClass) (v : α) : (p.set c v).get c = v := by
  cases c <;> rfl

/-- Port B pays for a telegram from the dedicated credits of its class, else from the shared ones (R152). -/
theorem transmit_portB (m : Telegram) (x : Option Nat) (s : State) :
    (transmit m x s).portB =
      { s.portB with credits :=
          if 0 < s.portB.credits.ded.get m.cls then
            { s.portB.credits with ded := s.portB.credits.ded.set m.cls (s.portB.credits.ded.get m.cls - 1) }
          else { s.portB.credits with shared := s.portB.credits.shared - 1 } } := by
  simp only [transmit, takeCredit, creditTaken]
  split <;> rfl

/-- The shared flag of a telegram in transmission says that no dedicated credit of its class was left (R152). -/
theorem transmit_tx (m : Telegram) (x : Option Nat) (s : State) :
    (transmit m x s).forward.tx = some ⟨{ m with shared := decide (s.portB.credits.ded.get m.cls = 0) }, x⟩ := by
  have hshared : creditTaken s m.cls = .shared ↔ s.portB.credits.ded.get m.cls = 0 := by
    unfold creditTaken
    split
    · next h => simp [Nat.ne_of_gt h]
    · next h => simpa using h
  simp only [transmit, hshared]

/-- A telegram in its slot is passed to Port B, and its forwarding counted. -/
theorem forwardSlot_arrived {s : State} {m : Telegram} {n : Nat} (hn : arrivalSlot s m = some n) :
    ∃ a b f, Forwarding s m n a b f ∧
      forwardSlot n m.shared m (withLoop (arrived s m n false) s.portB s.forward s) = withLoop a b f (passed s m.cls) := by
  cases hc : cutsThrough s m.cls with
  | false =>
    refine ⟨arrived s m n true, s.portB, s.forward, ⟨rfl, rfl, rfl, fun _ => ⟨rfl, rfl, rfl⟩, fun h => ?_⟩,
      forwardSlot_queued hn hc⟩
    exact absurd h (by simp [hc])
  | true =>
    refine ⟨arrived s m n false, (transmit m (some n) s).portB, sending s m n,
      ⟨rfl, rfl, rfl, fun h => ?_, fun _ => ⟨rfl, transmit_tx m _ s, transmit_portB m _ s, rfl, ?_⟩⟩, forwardSlot_cut hn hc⟩
    · exact absurd h (by simp [hc])
    · simp [sending, transmit, takeCredit, PerClass.get_set]

/-! ### Sorting -/

/-- An own BEAT is matched without reading the ports. -/
theorem beatReturned_withLoop (m : Telegram) (a : PortA) (b : PortB) (f : Forward) (s : State) :
    beatReturned m (withLoop a b f s) = withLoop a b f (beatReturned m s) := by
  have hround : (withLoop a b f s).cadence = s.cadence := rfl
  unfold beatReturned
  rw [hround]
  repeat' split
  all_goals rfl

/-- A telegram from the own or the retired address is stripped (R148). -/
theorem sortArrival_stripped {s : State} {m : Telegram} {n : Nat} (hup : s.portA.state.isUp = true) (hn : arrivalSlot s m = some n)
    (haddr : addressed s = true) (hsrc : isOwn s m = true ∨ isRetired s m = true) :
    sortArrival n m.shared m (withLoop (arrived s m n false) s.portB s.forward s) =
      withLoop (released s m) s.portB s.forward (if isOwn s m && m.isKind .ctl 1 then beatReturned m s else s) := by
  have hcase : (addressed s && (isOwn s m || isRetired s m)) = true := by simp [haddr, hsrc]
  rw [sortArrival, freeSlot_arrived hup hn, apply_ite (withLoop (released s m) s.portB s.forward), ← beatReturned_withLoop]
  exact if_pos hcase

/-- A telegram to the router is taken (R148). -/
theorem sortArrival_taken {s : State} {m : Telegram} {n : Nat} (hup : s.portA.state.isUp = true) (hn : arrivalSlot s m = some n)
    (haddr : addressed s = true) (hown : isOwn s m = false) (hret : isRetired s m = false) (hdest : m.dest.toNat = s.node.address) :
    sortArrival n m.shared m (withLoop (arrived s m n false) s.portB s.forward s) =
      withLoop (released s m) s.portB s.forward (takeAddressed m s) := by
  have hfirst : ¬(addressed s && (isOwn s m || isRetired s m)) = true := by simp [hown, hret]
  have hcase : (addressed s && decide (m.dest.toNat = s.node.address)) = true := by simp [haddr, hdest]
  rw [sortArrival, freeSlot_arrived hup hn, takeAddressed_withLoop]
  exact (if_neg hfirst).trans (if_pos hcase)

/-- What the router takes beside of a telegram it forwards: of a broadcast one only (R149). -/
def takeBeside (m : Telegram) (s : State) : State := if m.dest.toNat = 255 then takeBroadcast m s else s

/-- Any other telegram is forwarded, and a broadcast one then taken of (R148, log 36). -/
theorem sortArrival_forwarded {s : State} {m : Telegram} {n : Nat} (hn : arrivalSlot s m = some n)
    (hother : ¬(addressed s = true ∧ (isOwn s m = true ∨ isRetired s m = true ∨ m.dest.toNat = s.node.address))) :
    ∃ a b f, Forwarding s m n a b f ∧
      sortArrival n m.shared m (withLoop (arrived s m n false) s.portB s.forward s) =
        withLoop a b f (takeBeside m (passed s m.cls)) := by
  have hfirst : ¬(addressed s && (isOwn s m || isRetired s m)) = true := by
    simp only [Bool.and_eq_true, Bool.or_eq_true]
    exact fun ⟨ha, h⟩ => hother ⟨ha, h.imp_right .inl⟩
  have hsecond : ¬(addressed s && decide (m.dest.toNat = s.node.address)) = true := by
    simp only [Bool.and_eq_true, decide_eq_true_eq]
    exact fun ⟨ha, h⟩ => hother ⟨ha, .inr (.inr h)⟩
  obtain ⟨a, b, f, hf, hfwd⟩ := forwardSlot_arrived hn
  refine ⟨a, b, f, hf, ?_⟩
  rw [sortArrival, hfwd, takeBroadcast_withLoop, takeBeside, apply_ite (withLoop a b f)]
  exact (if_neg hfirst).trans (if_neg hsecond)

/-! ### The step -/

/-- An arrival with a slot free is sorted, and a REPORT snooped. -/
theorem exec_goodArrival {s : State} {bs : List Byte} {m : Telegram} {n : Nat} (hs : s.inReset = false)
    (hup : s.portA.state.isUp = true) (hp : parseTelegram bs = .good m) (hn : arrivalSlot s m = some n) :
    exec (.telegramArrival bs) s = .next (settle s (snoopReport m
      (sortArrival n m.shared m (withLoop (arrived s m n false) s.portB s.forward s)))) := by
  have hdown : s.portA.state ≠ .down := fun h => by simp [PortState.isUp, h] at hup
  have hslot : arrivalSlot (seeTelegram s) m = some n := hn
  have hexec : exec (.telegramArrival bs) s = execTelegramArrival bs s := rfl
  rw [hexec, execTelegramArrival, run_running s _ hs, if_neg hdown, hp]
  simp only [goodArrival, hslot, fillSlot_seeTelegram]

/-- A telegram that is no REPORT is not snooped. -/
theorem snoopReport_other {m : Telegram} (h : m.isKind .haz 1 = false) (s : State) : snoopReport m s = s := by
  simp [snoopReport, h]

/-- The end of a step opens and closes no stall episode. -/
theorem settle_episode (b s : State) (c : TClass) : ((settle b s).forward.stalls.get c).episode = (s.forward.stalls.get c).episode := by
  have hstall : ∀ (u : State) (x : TClass), (settledStall u x).episode = (u.forward.stalls.get x).episode := by
    intro u x
    unfold settledStall
    dsimp only
    repeat' split
    all_goals rfl
  have hget : ∀ u : State, (settleStalls u).forward.stalls.get c = settledStall u c := fun u => by cases c <;> rfl
  rw [settle, hget, hstall]
  simp

/-- Neither the snooping of a REPORT nor the end of the step moves what sorting has left at the ports and in the forward path. -/
theorem settled_loop (s : State) (m : Telegram) (a : PortA) (b : PortB) (f : Forward) (v : State) :
    let t := settle s (snoopReport m (withLoop a b f v))
    t.portA = a ∧ t.portB = b ∧ t.forward.tx = f.tx ∧ t.forward.resend = f.resend ∧ t.forward.turn = f.turn ∧
      ∀ c, (t.forward.stalls.get c).episode = (f.stalls.get c).episode := by
  have hforward : (snoopReport m (withLoop a b f v)).forward = f := by simp [withLoop]
  obtain ⟨htx, hresend, hturn⟩ := Part.same_settle .forward s (snoopReport m (withLoop a b f v))
  refine ⟨by simp [withLoop], by simp [withLoop], ?_, ?_, ?_, fun c => ?_⟩
  · rw [htx, hforward]
  · rw [hresend, hforward]
  · rw [hturn, hforward]
  · rw [settle_episode, hforward]

end Sys2Proof.Machine
end

section
/-! What is counted and taken of an arrival, and the statement that its ways make together. -/

namespace Sys2Proof.Machine

/-! ### What each taking moves -/

/-- Counting moves the counters and the notices alone. -/
theorem count_keeps (ev : CounterEvent) (c : Option TClass) (s : State) : KeepsAllBut [.counters, .notices] s (count ev c s) := by
  intro p hp
  cases p <;> simp_all [Part.same]

/-- The forwarding of an arrival, as it is counted, moves the counters and the notices alone. -/
theorem passed_keeps (s : State) (c : TClass) : KeepsAllBut [.counters, .notices] s (passed s c) := by
  unfold passed
  split
  · exact ((count_keeps _ _ s).trans (count_keeps _ _ _)).mono (by simp)
  · exact count_keeps _ _ s

/-- A telegram that waits is counted as QUEUED. -/
theorem passed_queued {s : State} {c : TClass} (h : cutsThrough s c = false) : passed s c = count .queued (some c) s := by
  simp [passed, h]

/-- A telegram that is cut through is counted as FORWARDED and CUT_THROUGH. -/
theorem passed_cut {s : State} {c : TClass} (h : cutsThrough s c = true) :
    passed s c = count .cutThrough (some c) (count .forwarded (some c) s) := by
  simp [passed, h]

/-- The forwarding counted leaves Port B and the forward path as they were. -/
theorem passed_loop (s : State) (c : TClass) : (passed s c).portB = s.portB ∧ (passed s c).forward = s.forward := by
  unfold passed
  split <;> simp

/-- What is taken of a forwarded telegram leaves Port B and the forward path as they were. -/
theorem takeBeside_loop (m : Telegram) (s : State) : (takeBeside m s).portB = s.portB ∧ (takeBeside m s).forward = s.forward := by
  unfold takeBeside
  split <;> simp

/-- A REQUEST joins a queue of fewer than four (R164). -/
theorem enqueueRequest_room {s : State} (h : s.requests.queue.length < 4) (m : Telegram) (x : Bool) :
    enqueueRequest m x s = { s with requests := { s.requests with queue := s.requests.queue ++ [⟨m.source, x, m.payload⟩] } } :=
  if_pos h

/-- A REQUEST is dropped and counted where the queue holds four (R164). -/
theorem enqueueRequest_full {s : State} (h : 4 ≤ s.requests.queue.length) (m : Telegram) (x : Bool) :
    enqueueRequest m x s = count .requestDropped none s :=
  if_neg (Nat.not_lt.2 h)

/-- A REQUEST that joins the queue moves the request handler alone. -/
theorem enqueueRequest_room_keeps {s : State} (h : s.requests.queue.length < 4) (m : Telegram) (x : Bool) :
    KeepsAllBut [.requests] s (enqueueRequest m x s) := by
  rw [enqueueRequest_room h]
  intro p hp
  cases p <;> simp_all [Part.same]

/-- A REQUEST that is dropped moves the counters and the notices alone. -/
theorem enqueueRequest_full_keeps {s : State} (h : 4 ≤ s.requests.queue.length) (m : Telegram) (x : Bool) :
    KeepsAllBut [.counters, .notices] s (enqueueRequest m x s) :=
  enqueueRequest_full h m x ▸ count_keeps _ _ s

/-- A REQUEST moves the request handler, or the counters and the notices. -/
theorem enqueueRequest_keeps (m : Telegram) (x : Bool) (s : State) :
    KeepsAllBut [.requests, .counters, .notices] s (enqueueRequest m x s) := by
  rcases Nat.lt_or_ge s.requests.queue.length 4 with h | h
  · exact (enqueueRequest_room_keeps h m x).mono (by simp)
  · exact (enqueueRequest_full_keeps h m x).mono (by simp)

/-- A broadcast REQUEST taken after its forwarding was counted: it joins the queue, or is dropped and counted too. -/
theorem enqueueRequest_passed (m : Telegram) (s : State) (c : TClass) {v : State} (hv : v = enqueueRequest m true (passed s c)) :
    (s.requests.queue.length < 4 →
      v.requests = { s.requests with queue := s.requests.queue ++ [⟨m.source, true, m.payload⟩] } ∧
      v.counters = (passed s c).counters) ∧
    (4 ≤ s.requests.queue.length →
      v.requests = s.requests ∧ v.counters = (count .requestDropped none (passed s c)).counters) ∧
    KeepsAllBut [.requests, .counters, .notices] s v := by
  have hreqs : (passed s c).requests = s.requests := passed_keeps s c .requests (by simp)
  subst hv
  refine ⟨fun hroom => ?_, fun hfull => ?_, ((passed_keeps s c).trans (enqueueRequest_keeps m true _)).mono (by simp)⟩
  · rw [enqueueRequest_room (hreqs ▸ hroom), ← hreqs]
    exact ⟨rfl, rfl⟩
  · rw [enqueueRequest_full (hreqs ▸ hfull)]
    exact ⟨by simp [hreqs], rfl⟩

/-- A discarded take moves node addressing alone. -/
theorem discardTake_keeps (s : State) : KeepsAllBut [.node] s (discardTake s) := by
  intro p hp
  cases p <;> simp_all [Part.same, discardTake]

/-- An ADVERT moves the boundaries and the solver, and what a restarted solve counts. -/
theorem takeAdvert_keeps (m : Telegram) (s : State) :
    KeepsAllBut [.boundaries, .solver, .counters, .notices] s (takeAdvert m s) := by
  intro p hp
  cases p <;> simp_all [Part.same]

/-! ### What an ADVERT changes does not rest on what was counted -/

/-- What a trigger makes of the solver rests on the layout's state and the solver alone. -/
theorem solveTrigger_solver_congr (x : Bool) {s u : State} (hl : s.layout = u.layout) (hs : s.solver = u.solver) :
    (solveTrigger x s).solver = (solveTrigger x u).solver := by
  have hstart : (startSolve s).solver = (startSolve u).solver := by simp only [startSolve, hs]
  have hrestart : (restartSolve s).solver = (restartSolve u).solver := by simp only [restartSolve, count_frame, hs]
  have hlimit : snapshotRestartLimit s = snapshotRestartLimit u := by simp only [snapshotRestartLimit, hs]
  unfold solveTrigger
  rw [hl, hs, hlimit]
  simp only [apply_ite State.solver, hstart, hrestart, hs]

/-- What a matched ADVERT makes of the boundaries and the solver rests on them, the tables and the layout's state alone. -/
theorem advertMatched_congr (k cost : Nat) (tier : AdvertTier) {s u : State} (ht : s.tables = u.tables) (hl : s.layout = u.layout)
    (hb : s.boundaries = u.boundaries) (hs : s.solver = u.solver) :
    (advertMatched k cost tier s).boundaries = (advertMatched k cost tier u).boundaries ∧
      (advertMatched k cost tier s).solver = (advertMatched k cost tier u).solver := by
  have hr : boundaryRt s k = boundaryRt u k := by simp only [boundaryRt, hb]
  have hage : advertLifetime s = advertLifetime u := by simp only [advertLifetime, ht]
  have hset : ∀ r, (setBoundaryRt s k r).boundaries = (setBoundaryRt u k r).boundaries := fun r => by simp only [setBoundaryRt, hb]
  have hsolve : ∀ r, (solveTrigger false (setBoundaryRt s k r)).solver = (solveTrigger false (setBoundaryRt u k r)).solver :=
    fun r => solveTrigger_solver_congr false hl hs
  unfold advertMatched
  simp only [hr, hage]
  split
  · exact ⟨hset _, hs⟩
  · exact ⟨by simp only [solveTrigger_frame, hset], hsolve _⟩

/-- What a well-formed ADVERT makes of the boundaries and the solver rests on them, the tables and the layout's state alone. -/
theorem matchAdvert_congr (source id cost : Nat) (tier : AdvertTier) {s u : State} (ht : s.tables = u.tables)
    (hl : s.layout = u.layout) (hb : s.boundaries = u.boundaries) (hs : s.solver = u.solver) :
    (matchAdvert source id cost tier s).boundaries = (matchAdvert source id cost tier u).boundaries ∧
      (matchAdvert source id cost tier s).solver = (matchAdvert source id cost tier u).solver := by
  have hid : boundaryWithId s id = boundaryWithId u id := by simp only [boundaryWithId, boundaryActive, ht, hl]
  unfold matchAdvert
  rw [hid, ht]
  cases boundaryWithId u id with
  | none => exact ⟨hb, hs⟩
  | some k =>
    dsimp only
    split
    · exact advertMatched_congr k cost tier ht hl hb hs
    · simp [hb, hs]

/-- What an ADVERT makes of the boundaries and the solver rests on them, the tables and the layout's state alone. -/
theorem takeAdvert_congr (m : Telegram) {s u : State} (ht : s.tables = u.tables) (hl : s.layout = u.layout)
    (hb : s.boundaries = u.boundaries) (hs : s.solver = u.solver) :
    (takeAdvert m s).boundaries = (takeAdvert m u).boundaries ∧ (takeAdvert m s).solver = (takeAdvert m u).solver := by
  unfold takeAdvert
  split
  · rw [hl]
    split
    · split
      · exact ⟨hb, hs⟩
      · exact matchAdvert_congr _ _ _ _ ht hl hb hs
    · exact ⟨hb, hs⟩
  · exact ⟨hb, hs⟩

/-- An ADVERT taken after its forwarding was counted makes the same of the boundaries and the solver. -/
theorem takeAdvert_passed (m : Telegram) (s : State) (c : TClass) :
    (takeAdvert m (passed s c)).boundaries = (takeAdvert m s).boundaries ∧
      (takeAdvert m (passed s c)).solver = (takeAdvert m s).solver :=
  have keeps := passed_keeps s c
  takeAdvert_congr m (keeps .tables (by simp)) (keeps .layout (by simp)) (keeps .boundaries (by simp)) (keeps .solver (by simp))

/-! ### What is taken, by kind -/

/-- A telegram is of one kind. -/
theorem Telegram.isKind_mgmt_false_of_ctl {m : Telegram} {k j : Nat} (h : m.isKind .ctl k = true) : m.isKind .mgmt j = false := by
  simp only [Telegram.isKind, Bool.and_eq_true, decide_eq_true_eq] at h
  simp [Telegram.isKind, h.1]

/-- A REQUEST to the router joins the request queue (R149). -/
theorem takeAddressed_request {m : Telegram} (h : m.isKind .mgmt 1 = true) (s : State) :
    takeAddressed m s = enqueueRequest m false s := if_pos h

/-- A STATUS to the router goes to the sign scheduler (R149). -/
theorem takeAddressed_status {m : Telegram} (h : m.isKind .mgmt 1 = false) (hst : m.isKind .sign 3 = true) (s : State) :
    takeAddressed m s = takeStatus m s := by
  simp [takeAddressed, h, hst]

/-- Any other kind to the router is discarded (R149). -/
theorem takeAddressed_other {m : Telegram} (h : m.isKind .mgmt 1 = false) (hst : m.isKind .sign 3 = false) (s : State) :
    takeAddressed m s = discardTake s := by
  simp [takeAddressed, h, hst]

/-- Nothing is taken of a telegram forwarded to one node. -/
theorem takeBeside_other {m : Telegram} (h : m.dest.toNat ≠ 255) (s : State) : takeBeside m s = s := if_neg h

/-- A broadcast REQUEST of an accepted kind is taken (R149). -/
theorem takeBeside_request {m : Telegram} {s : State} (h : m.dest.toNat = 255) (hk : m.isKind .mgmt 1 = true)
    (ha : broadcastAccepted (addressed s) m.payload = true) : takeBeside m s = enqueueRequest m true s := by
  simp [takeBeside, takeBroadcast, h, hk, ha]

/-- An ADVERT is taken while the router is addressed (R149). -/
theorem takeBeside_advert {m : Telegram} {s : State} (h : m.dest.toNat = 255) (hk : m.isKind .ctl 2 = true)
    (ha : addressed s = true) : takeBeside m s = takeAdvert m s := by
  simp [takeBeside, takeBroadcast, h, hk, ha, Telegram.isKind_mgmt_false_of_ctl hk]

/-- Nothing is taken of any other broadcast. -/
theorem takeBeside_none {m : Telegram} {s : State} (hr : ¬(m.isKind .mgmt 1 = true ∧ broadcastAccepted (addressed s) m.payload = true))
    (ha : ¬(m.isKind .ctl 2 = true ∧ addressed s = true)) : takeBeside m s = s := by
  have hbroadcast : takeBroadcast m s = s := by
    rw [takeBroadcast, if_neg ha]
    split
    · next hk => exact if_neg (fun h => hr ⟨hk, h⟩)
    · rfl
  rw [takeBeside, hbroadcast, ite_self]

end Sys2Proof.Machine
end

section
/-! Arrivals, case by case, and the statement that the cases make. -/

namespace Sys2Proof.Machine

/-- When a class is cut through (R154, log 17). -/
theorem cutsThrough_iff (s : State) (c : TClass) : cutsThrough s c = true ↔
    (s.portB.state = .upDual ∧ (∀ p, p ∈ s.portA.pool → p.waiting = false) ∧ s.forward.tx = none ∧ firstSendable s = none ∧
      usable s c = true) := by
  simp [cutsThrough, forwardQueue, and_assoc]

section Arrival

variable {s : State} {bs : List Byte} {m : Telegram} {n : Nat}

/-! ### Every kind -/

section EveryKind

variable (hs : s.inReset = false) (hup : s.portA.state.isUp = true) (hp : parseTelegram bs = .good m) (hn : arrivalSlot s m = some n)

include hs hup hp hn

/-- A telegram from the own or the retired address is stripped: its slot is free again and its credit returned. -/
theorem exec_stripped (haddr : addressed s = true) (hsrc : isOwn s m = true ∨ isRetired s m = true) :
    exec (.telegramArrival bs) s = .next (settle s (snoopReport m (withLoop (released s m) s.portB s.forward
      (if isOwn s m && m.isKind .ctl 1 then beatReturned m s else s)))) := by
  rw [exec_goodArrival hs hup hp hn, sortArrival_stripped hup hn haddr hsrc]

/-- A telegram to the router is taken: its slot is free again and its credit returned. -/
theorem exec_taken (haddr : addressed s = true) (hown : isOwn s m = false) (hret : isRetired s m = false)
    (hdest : m.dest.toNat = s.node.address) :
    exec (.telegramArrival bs) s = .next (settle s (snoopReport m (withLoop (released s m) s.portB s.forward (takeAddressed m s)))) := by
  rw [exec_goodArrival hs hup hp hn, sortArrival_taken hup hn haddr hown hret hdest]

/-- A telegram that is stripped or taken leaves the forward path as it was. -/
theorem exec_kept (hkept : addressed s = true ∧ (isOwn s m = true ∨ isRetired s m = true ∨ m.dest.toNat = s.node.address)) :
    ∃ v, exec (.telegramArrival bs) s = .next (settle s (snoopReport m (withLoop (released s m) s.portB s.forward v))) := by
  obtain ⟨haddr, hwhy⟩ := hkept
  by_cases hsrc : isOwn s m = true ∨ isRetired s m = true
  · exact ⟨_, exec_stripped hs hup hp hn haddr hsrc⟩
  · obtain ⟨hown, hret⟩ := not_or.1 hsrc
    have hdest := (hwhy.resolve_left hown).resolve_left hret
    exact ⟨_, exec_taken hs hup hp hn haddr (by simpa using hown) (by simpa using hret) hdest⟩

/-- Any other telegram is forwarded, its forwarding counted before anything is taken of it (log 36). -/
theorem exec_forwarded (hother : ¬(addressed s = true ∧ (isOwn s m = true ∨ isRetired s m = true ∨ m.dest.toNat = s.node.address))) :
    ∃ a b f, Forwarding s m n a b f ∧ exec (.telegramArrival bs) s =
      .next (settle s (snoopReport m (withLoop a b f (takeBeside m (passed s m.cls))))) := by
  obtain ⟨a, b, f, hf, hsort⟩ := sortArrival_forwarded hn hother
  exact ⟨a, b, f, hf, by rw [exec_goodArrival hs hup hp hn, hsort]⟩

end EveryKind

/-- What is left at the ports and in the forward path at the end of the step. -/
theorem loop_result {a : PortA} {b : PortB} {f : Forward} {v : State}
    (hx : exec (.telegramArrival bs) s = .next (settle s (snoopReport m (withLoop a b f v)))) :
    ∃ t, exec (.telegramArrival bs) s = .next t ∧ t.portA = a ∧ t.portB = b ∧ t.forward.tx = f.tx ∧
      t.forward.resend = f.resend ∧ t.forward.turn = f.turn ∧
      ∀ c, (t.forward.stalls.get c).episode = (f.stalls.get c).episode :=
  ⟨_, hx, settled_loop s m a b f v⟩

/-- A telegram that is neither from nor to the router, nor from its retired address, is none to keep. -/
theorem not_kept (hnot : addressed s = true → isOwn s m = false ∧ isRetired s m = false ∧ m.dest.toNat ≠ s.node.address) :
    ¬(addressed s = true ∧ (isOwn s m = true ∨ isRetired s m = true ∨ m.dest.toNat = s.node.address)) := by
  rintro ⟨haddr, hwhy⟩
  obtain ⟨hown, hret, hdest⟩ := hnot haddr
  simp [hown, hret, hdest] at hwhy

/-! ### All but a REPORT -/

/-- What is left at the end of the step of a telegram stripped or taken, `v` being the router with what was taken. -/
theorem kept_result {v : State} (hb : v.portB = s.portB) (hf : v.forward = s.forward) (hk : m.isKind .haz 1 = false)
    (hx : exec (.telegramArrival bs) s = .next (settle s (snoopReport m (withLoop (released s m) s.portB s.forward v)))) :
    ∃ t, exec (.telegramArrival bs) s = .next t ∧ t.portA.pool = s.portA.pool ∧ t.portA.outstanding = s.portA.outstanding ∧
      t.portA.returns = .credit (creditOf m.shared m.cls) :: s.portA.returns ∧ t.requests = v.requests ∧ t.counters = v.counters ∧
      t.node = v.node ∧ KeepsAllBut [.portA] v t := by
  rw [snoopReport_other hk] at hx
  refine ⟨_, hx, ?_, ?_, ?_, ?_, ?_, ?_, (withLoop_keeps_portA _ hb hf).settled s⟩
  all_goals simp only [settle_frame]
  all_goals rfl

/-- A telegram whose transmission has begun stands in its slot. -/
theorem Forwarding.cut_tx {a : PortA} {b : PortB} {f : Forward} (hf : Forwarding s m n a b f) (hc : cutsThrough s m.cls = true) :
    a.pool = s.portA.pool ++ [⟨n, m.shared, m, false⟩] ∧
      ∃ x, f.tx = some x ∧ x.slot = some n ∧ x.telegram = { m with shared := x.telegram.shared } := by
  obtain ⟨hpool, htx, _⟩ := hf.cut hc
  exact ⟨hpool, _, htx, rfl, rfl⟩

/-- What is left at the end of the step of a telegram forwarded, `v` being the router with what was counted and taken beside. -/
theorem forwarded_result (hs : s.inReset = false) (hup : s.portA.state.isUp = true) (hp : parseTelegram bs = .good m)
    (hn : arrivalSlot s m = some n) (hk : m.isKind .haz 1 = false)
    (hother : ¬(addressed s = true ∧ (isOwn s m = true ∨ isRetired s m = true ∨ m.dest.toNat = s.node.address)))
    {v : State} (hv : v = takeBeside m (passed s m.cls)) :
    ∃ t, exec (.telegramArrival bs) s = .next t ∧
      t.portA.outstanding =
        s.portA.outstanding.put (creditOf m.shared m.cls) (s.portA.outstanding.count (creditOf m.shared m.cls) - 1) ∧
      t.portA.returns = s.portA.returns ∧
      (cutsThrough s m.cls = false → t.portA.pool = s.portA.pool ++ [⟨n, m.shared, m, true⟩] ∧ KeepsAllBut [.portA] v t) ∧
      (cutsThrough s m.cls = true → t.portA.pool = s.portA.pool ++ [⟨n, m.shared, m, false⟩] ∧
        ∃ x, t.forward.tx = some x ∧ x.slot = some n ∧ x.telegram = { m with shared := x.telegram.shared }) ∧
      t.requests = v.requests ∧ t.counters = v.counters ∧ t.boundaries = v.boundaries ∧ t.solver = v.solver ∧
      KeepsAllBut [.portA, .portB, .forward] v t := by
  obtain ⟨a, b, f, hfwd, hx⟩ := exec_forwarded hs hup hp hn hother
  obtain ⟨hportA, _, htx, _, _, _⟩ := settled_loop s m a b f v
  obtain ⟨hB, hF⟩ := takeBeside_loop m (passed s m.cls)
  obtain ⟨hB', hF'⟩ := passed_loop s m.cls
  rw [← hv, snoopReport_other hk] at hx
  rw [snoopReport_other hk] at hportA htx
  rw [← hv] at hB hF
  refine ⟨_, hx, (congrArg _ hportA).trans hfwd.outstanding, (congrArg _ hportA).trans hfwd.returns, fun hc => ⟨?_, ?_⟩,
    fun hc => ?_, ?_, ?_, ?_, ?_, (withLoop_keeps a b f v).settled s⟩
  · exact (congrArg _ hportA).trans (hfwd.queued hc).1
  · obtain ⟨_, hbs, hfs⟩ := hfwd.queued hc
    exact (withLoop_keeps_portA a (hB.trans (hB'.trans hbs.symm)) (hF.trans (hF'.trans hfs.symm))).settled s
  · rw [hportA, htx]
    exact hfwd.cut_tx hc
  all_goals simp only [settle_frame]
  all_goals rfl

/-- Nothing but Port A is moved by an arrival that is stripped, unless it is an own BEAT. -/
theorem stripped_result (hs : s.inReset = false) (hup : s.portA.state.isUp = true) (hp : parseTelegram bs = .good m)
    (hn : arrivalSlot s m = some n) (hk : m.isKind .haz 1 = false) (haddr : addressed s = true)
    (hsrc : isOwn s m = true ∨ isRetired s m = true) (hbeat : (isOwn s m && m.isKind .ctl 1) = false) :
    ∃ t, exec (.telegramArrival bs) s = .next t ∧ t.portA.pool = s.portA.pool ∧ t.portA.outstanding = s.portA.outstanding ∧
      t.portA.returns = .credit (creditOf m.shared m.cls) :: s.portA.returns ∧ KeepsAllBut [.portA] s t := by
  have hx := exec_stripped hs hup hp hn haddr hsrc
  rw [hbeat, if_neg Bool.false_ne_true] at hx
  obtain ⟨t, ht, hpool, hout, hret, _, _, _, hkeep⟩ := kept_result rfl rfl hk hx
  exact ⟨t, ht, hpool, hout, hret, hkeep⟩

end Arrival

/-- Settles O16: by the three ways of the sorting, and by kind in each. -/
theorem arrivalsAreStrippedTakenOrForwarded : Obligations.ArrivalsAreStrippedTakenOrForwarded := by
  refine ⟨cutsThrough_iff, fun s bs hs _ hup m hp n hn => ⟨fun hkept => ?kept, fun hother => ?forwarded⟩,
    fun s bs hs _ hup m hp n hn hk => ⟨fun haddr hown hctl => ?own, fun haddr hown hret hdest hreq => ?request,
      fun hnot hdest => ?passing⟩,
    fun s bs hs h250 hup m hp n hn hk => ⟨fun haddr hown r hr hsrc => ?retired, fun hown hret haddr hdest hreq => ?addressed,
      fun hnot hdest g hg => ?broadcast⟩⟩
  case kept =>
    obtain ⟨v, hx⟩ := exec_kept hs hup hp hn hkept
    obtain ⟨t, ht, hA, hB, htx, hresend, hturn, _⟩ := loop_result hx
    exact ⟨t, ht, by rw [hA]; rfl, by rw [hA]; rfl, by rw [hA]; rfl, hB, htx, hresend, hturn⟩
  case forwarded =>
    obtain ⟨a, b, f, hfwd, hx⟩ := exec_forwarded hs hup hp hn hother
    obtain ⟨t, ht, rfl, rfl, htx, hresend, hturn, hepisode⟩ := loop_result hx
    refine ⟨t, ht, hfwd.outstanding, hfwd.returns, hresend.trans hfwd.resend, fun hc => ?_, fun hc => ?_⟩
    · obtain ⟨hpool, hB, rfl⟩ := hfwd.queued hc
      exact ⟨hpool, hB, htx, hturn⟩
    · obtain ⟨hpool, hftx, hB, hfturn, hfepisode⟩ := hfwd.cut hc
      exact ⟨hpool, htx.trans hftx, hB, hturn.trans hfturn, (hepisode _).trans hfepisode⟩
  case own => exact stripped_result hs hup hp hn hk haddr (.inl hown) (by simp [hctl])
  case retired =>
    have hret : isRetired s m = true := by simp [isRetired, hr, hsrc]
    exact stripped_result hs hup hp hn hk haddr (.inr hret) (by simp [hown])
  case request =>
    have hx := exec_taken hs hup hp hn haddr hown hret hdest
    rw [takeAddressed_request hreq] at hx
    obtain ⟨t, ht, hpool, hout, _, hrequests, hcounters, _, hkeep⟩ := kept_result (by simp) (by simp) hk hx
    refine ⟨t, ht, hpool, hout, fun hroom => ⟨?_, ?_⟩, fun hfull => ⟨?_, ?_⟩⟩
    · rw [hrequests, enqueueRequest_room hroom]
    · exact ((enqueueRequest_room_keeps hroom m false).trans hkeep).mono (by simp)
    · rw [hcounters, enqueueRequest_full hfull]
    · exact ((enqueueRequest_full_keeps hfull m false).trans hkeep).mono (by simp)
  case addressed =>
    have hx := exec_taken hs hup hp hn haddr hown hret hdest
    obtain ⟨t, ht, hpool, hout, hreturns, _, _, hnode, hkeep⟩ := kept_result (by simp) (by simp) hk hx
    refine ⟨t, ht, hpool, hout, hreturns, fun hst => ?_, fun hst => ?_⟩
    · rwa [takeAddressed_status hreq hst] at hkeep
    · rw [takeAddressed_other hreq hst] at hnode hkeep
      exact ⟨hnode, ((discardTake_keeps s).trans hkeep).mono (by simp)⟩
  case passing =>
    have hcounted := passed_keeps s m.cls
    obtain ⟨t, ht, hout, hreturns, hqueued, hcut, _, hcounters, _, _, hkeep⟩ :=
      forwarded_result hs hup hp hn hk (not_kept hnot) (takeBeside_other hdest _).symm
    refine ⟨t, ht, hout, hreturns, fun hc => ?_, fun hc => ?_⟩
    · obtain ⟨hpool, hportA⟩ := hqueued hc
      exact ⟨hpool, passed_queued hc ▸ hcounters, (hcounted.trans hportA).mono (by simp)⟩
    · obtain ⟨hpool, hsent⟩ := hcut hc
      exact ⟨hpool, hsent, passed_cut hc ▸ hcounters, (hcounted.trans hkeep).mono (by simp)⟩
  case broadcast =>
    have hg : g = passed s m.cls := hg
    subst hg
    have hcounted := passed_keeps s m.cls
    have hnode : (passed s m.cls).node = s.node := hcounted .node (by simp)
    have haddr : addressed (passed s m.cls) = addressed s := by simp only [addressed, hnode]
    have hother : m.dest.toNat ≠ s.node.address := by omega
    obtain ⟨t, ht, _, _, hqueued, hcut, hrequests, hcounters, hboundaries, hsolver, hkeep⟩ :=
      forwarded_result hs hup hp hn hk (not_kept fun ha => have ⟨hown, hret⟩ := hnot ha; ⟨hown, hret, hother⟩) rfl
    refine ⟨t, ht, fun hc => (hqueued hc).1, hcut, fun hreq hacc => ?_, fun hadv ha => ?_, fun hreq hadv => ?_⟩
    · obtain ⟨hroom, hfull, hmoved⟩ := enqueueRequest_passed m s m.cls (takeBeside_request hdest hreq (haddr ▸ hacc))
      rw [hrequests, hcounters]
      exact ⟨hroom, hfull, (hmoved.trans hkeep).mono (by simp)⟩
    · rw [takeBeside_advert hdest hadv (haddr ▸ ha)] at hcounters hboundaries hsolver hkeep
      obtain ⟨hpb, hps⟩ := takeAdvert_passed m s m.cls
      exact ⟨hboundaries.trans hpb, hsolver.trans hps, hcounters,
        ((hcounted.trans (takeAdvert_keeps m _)).trans hkeep).mono (by simp)⟩
    · rw [takeBeside_none (haddr ▸ hreq) (haddr ▸ hadv)] at hcounters hkeep
      exact ⟨hcounters, (hcounted.trans hkeep).mono (by simp)⟩

end Sys2Proof.Machine
end

section
/-! The mode controller: what a mode change does to its fields, and what it does with causes in the mode it is in. -/

namespace Sys2Proof.Machine

/-! ### Mode changes -/

@[simp] theorem setMode_mode (m : Mode) (s : State) : (setMode m s).mode = { s.mode with mode := m } := rfl

@[simp] theorem endFreeze_mode (s : State) : (endFreeze s).mode = { s.mode with frozen := false } := rfl

/-- A change to the present mode is none (R122). -/
theorem changeMode_present {m : Mode} {s : State} (h : s.mode.mode = m) (line : Bool) : changeMode m line s = s := if_pos h

/-- A change to another mode moves, of the mode controller, the mode and the freeze alone (R122). -/
theorem changeMode_mode {m : Mode} {s : State} (h : s.mode.mode ≠ m) (line : Bool) :
    (changeMode m line s).mode = { s.mode with mode := m, frozen := !m.endsFreeze && s.mode.frozen } := by
  unfold changeMode
  rw [if_neg h]
  cases m <;> cases line <;> simp [Mode.endsFreeze, Mode.restartsBeats]

/-- After a mode change the mode is the one it was made to. -/
@[simp] theorem changeMode_mode_mode (m : Mode) (line : Bool) (s : State) : (changeMode m line s).mode.mode = m := by
  by_cases h : s.mode.mode = m
  · rw [changeMode_present h, h]
  · rw [changeMode_mode h]

/-- A mode change leaves the start wait, the lines, the EVAC demand and the fire path as they were. -/
@[simp] theorem changeMode_mode_frame (m : Mode) (line : Bool) (s : State) :
    (changeMode m line s).mode.startWait = s.mode.startWait ∧ (changeMode m line s).mode.heldEvac = s.mode.heldEvac ∧
    (changeMode m line s).mode.evacDemand = s.mode.evacDemand ∧ (changeMode m line s).mode.evacLine = s.mode.evacLine ∧
    (changeMode m line s).mode.holdLine = s.mode.holdLine ∧ (changeMode m line s).mode.fireWaiting = s.mode.fireWaiting ∧
    (changeMode m line s).mode.fireEvac = s.mode.fireEvac ∧ (changeMode m line s).mode.lineCause = s.mode.lineCause := by
  by_cases h : s.mode.mode = m
  · simp [changeMode_present h]
  · simp [changeMode_mode h]

/-! ### Causes by mode -/

/-- Outside MAINT an EVAC cause is an EVAC entry (R123). -/
theorem evacCause_entry {s : State} (h : s.mode.mode ≠ .maint) (line : Bool) : evacCause line s = changeMode .evac line s := if_neg h

/-- In MAINT an EVAC cause is a fire cause (R127). -/
theorem evacCause_maint {s : State} (h : s.mode.mode = .maint) (line : Bool) : evacCause line s = fireCause true line s := if_pos h

/-- In EVAC an EVAC cause changes nothing. -/
theorem evacCause_evac {s : State} (h : s.mode.mode = .evac) (line : Bool) : evacCause line s = s := by
  rw [evacCause_entry (by simp [h]), changeMode_present h]

/-- During the start wait an escalation changes nothing at the mode controller (R134). -/
theorem escalationAtMode_startWait {s : State} (h : s.mode.startWait = true) (x : ZoneState) : escalationAtMode x s = s := if_pos h

/-- During the start wait a zone change changes nothing at the mode controller (R134). -/
theorem changeAtMode_startWait {s : State} (h : s.mode.startWait = true) (z : Nat) (x : ZoneState) : changeAtMode z x s = s := if_pos h

/-- An escalation to DENSE is an EVAC cause (R123). -/
theorem escalationAtMode_dense {s : State} (h : s.mode.startWait = false) : escalationAtMode .dense s = evacCause false s := by
  simp [escalationAtMode, h]

/-- In EVAC an escalation changes nothing. -/
theorem escalationAtMode_evac {s : State} (h : s.mode.mode = .evac) (x : ZoneState) : escalationAtMode x s = s := by
  simp [escalationAtMode, evacCause_evac h, h]

/-- In EVAC a zone change changes nothing (R124). -/
theorem changeAtMode_evac {s : State} (h : s.mode.mode = .evac) (z : Nat) (x : ZoneState) : changeAtMode z x s = s := by
  simp [changeAtMode, h]

/-- Settles O9: by the mode the event finds. -/
theorem hazardEventsMoveTheMode : Obligations.HazardEventsMoveTheMode := by
  refine ⟨fun s x z hw => ⟨escalationAtMode_startWait hw x, changeAtMode_startWait hw z x⟩, fun s hw hm => ⟨?_, ?_⟩,
    fun s hw hm => ⟨?_, ?_⟩, fun s x z hw => ⟨fun hm => ?_, fun hm => ?_, fun hm => ?_, fun hm => ?_⟩⟩
  · rw [escalationAtMode_dense hw, evacCause_entry hm, changeMode_mode_mode]
  · cases h : s.mode.mode <;> simp_all [escalationAtMode]
  · rw [escalationAtMode_dense hw, evacCause_maint hm]
  · simp [escalationAtMode, hw, hm]
  · by_cases wakes : x = .watch ∧ (zoneEntry s z).wakeOnWatch = true <;> simp [changeAtMode, hw, hm, wakes]
  · cases hz : hazardPresent s <;> simp [changeAtMode, hw, hm, hz]
  · cases hz : hazardPresent s <;> simp [changeAtMode, hw, hm, hz]
  · obtain hm | hm := hm
    · exact changeAtMode_evac hm z x
    · simp [changeAtMode, hw, hm]

end Sys2Proof.Machine
end

section
/-! EVAC is kept: by every operation of the hazard map and of the panel lines, by every request but EVAC_CANCEL, and, by the lifecycle, at
the ends of store operations and of a validation, which do not fall in EVAC. -/

namespace Sys2Proof.Machine

/-- The operation leaves a router in EVAC there. -/
def KeepsEvac (f : State → State) : Prop := ∀ s, s.mode.mode = .evac → (f s).mode.mode = .evac

/-- An operation that leaves the mode controller as it was keeps EVAC. -/
theorem KeepsEvac.of_mode {f : State → State} (h : ∀ s, (f s).mode = s.mode) : KeepsEvac f := fun s hs => by rw [h, hs]

/-- EVAC is kept over operations in turn. -/
theorem KeepsEvac.comp {f g : State → State} (hf : KeepsEvac f) (hg : KeepsEvac g) : KeepsEvac (fun s => f (g s)) :=
  fun s hs => hf _ (hg s hs)

/-- EVAC is kept over an operation made only on a condition. -/
theorem KeepsEvac.guarded {f : State → State} (p : State → Prop) [DecidablePred p] (hf : KeepsEvac f) :
    KeepsEvac (fun s => if p s then f s else s) := fun s hs => by
  dsimp only
  split
  · exact hf s hs
  · exact hs

/-! ### The hazard map -/

theorem keepsEvac_escalate (z : Nat) (x : ZoneState) : KeepsEvac (escalate z x) := fun s hs => by
  have hsame : escalationAtMode x (solveTrigger true (latch .zoneEscalated z s)) = solveTrigger true (latch .zoneEscalated z s) :=
    escalationAtMode_evac (by simp [hs]) x
  simp [escalate, hsame, hs]

theorem keepsEvac_zoneChanged (z : Nat) (x : ZoneState) : KeepsEvac (zoneChanged z x) := fun s hs => by
  rw [zoneChanged, changeAtMode_evac (by simp [hs])]
  simp [hs]

theorem keepsEvac_zoneEvents (z : Nat) (old new : ZoneState) : KeepsEvac (zoneEvents z old new) := fun s hs => by
  unfold zoneEvents
  split
  · exact hs
  · split
    · exact keepsEvac_escalate z new s hs
    · exact keepsEvac_zoneChanged z new s hs

theorem keepsEvac_recompute (z : Nat) : KeepsEvac (recompute z) := fun s hs => by
  simp [recompute, keepsEvac_zoneEvents z _ _ (setZoneRt s z (recomputed s z)) (by simp [hs])]

theorem keepsEvac_recomputeAll (zs : List Nat) : KeepsEvac (recomputeAll zs) := fun s hs => by
  induction zs generalizing s with
  | nil => exact hs
  | cons z zs ih => exact ih _ (keepsEvac_recompute z s hs)

theorem keepsEvac_loopLoss : KeepsEvac loopLoss := fun s hs =>
  keepsEvac_recomputeAll _ (stopSilence (staleUnlatched s)) (by simp [hs])

theorem keepsEvac_acceptReport (i : Nat) (c : Condition) : KeepsEvac (acceptReport i c) := fun s hs => by
  refine keepsEvac_recompute _ _ ?_
  split <;> simp [hs]

theorem keepsEvac_takeReport (m : Telegram) : KeepsEvac (takeReport m) := fun s hs => by
  unfold takeReport
  repeat' split
  case _ => exact hs
  case _ => simp [hs]
  case _ => exact keepsEvac_acceptReport _ _ s hs
  case _ => exact hs

theorem keepsEvac_snoopReport (m : Telegram) : KeepsEvac (snoopReport m) :=
  (keepsEvac_takeReport m).guarded (fun _ => m.isKind .haz 1 = true)

theorem keepsEvac_goodArrival (m : Telegram) : KeepsEvac (goodArrival m) := fun s hs => by
  unfold goodArrival
  split
  · simp [hs]
  · exact keepsEvac_snoopReport m _ (by simp [hs])

theorem keepsEvac_portADown : KeepsEvac portADown := fun s hs => keepsEvac_loopLoss _ (by simp [hs])

theorem keepsEvac_laneLost (lane : Lane) (cut : Bool) : KeepsEvac (laneLost lane cut) := fun s hs => by
  have keepsAfter : KeepsEvac afterLaneLoss := fun u hu => by
    unfold afterLaneLoss
    repeat' split
    case _ => exact hu
    case _ => exact keepsEvac_portADown u hu
    case _ => exact hu
  refine keepsAfter _ ?_
  split <;> simp [hs]

/-! ### The panel lines -/

theorem keepsEvac_evacCause (line : Bool) : KeepsEvac (evacCause line) := fun s hs => by rw [evacCause_evac hs, hs]

@[simp] theorem setPanelLine_mode_mode (n : PanelLineName) (p : PanelLine) (s : State) :
    (setPanelLine n p s).mode.mode = s.mode.mode := by cases n <;> rfl

theorem keepsEvac_edgeTaken (n : PanelLineName) (l : Level) : KeepsEvac (edgeTaken n l) := fun s hs => by
  match n, l with
  | .evacIn, .active => exact keepsEvac_evacCause true _ hs
  | .evacIn, .inactive => exact hs
  | .holdIn, .active =>
    simp only [edgeTaken]
    split <;> exact hs
  | .holdIn, .inactive => exact hs

theorem keepsEvac_lookAt (n : PanelLineName) : KeepsEvac (lookAt n) := fun s hs => by
  dsimp only [lookAt]
  split
  · exact keepsEvac_edgeTaken _ _ _ (by simp [hs])
  · exact hs

theorem keepsEvac_edge (n : PanelLineName) (l : Level) : KeepsEvac (edge n l) :=
  ((keepsEvac_lookAt n).comp (g := fun s => setPanelLine n { panelLine s n with raw := l } s) fun s hs => by simp [hs]).guarded
    (fun s => lookedAt n s = true)

/-! ### Requests -/

@[simp] theorem refuse_state (x : Status) (s : State) : (refuse x s).state = s := rfl

@[simp] theorem done_state (s : State) : (done s).state = s := rfl

@[simp] theorem withMode_state (a : Answer) : (withMode a).state = a.state := rfl

@[simp] theorem written_state (f : List Byte) (s : State) : (written f s).state = s := rfl

/-- The end of an execution leaves the mode controller as the body left it. -/
@[simp] theorem finish_mode (e : ReqEntry) (a : Answer) : (finish e a).mode = a.state.mode := by rw [finish_frame]

/-- A request keeps EVAC where its body does. -/
theorem keepsEvac_request {row : ReqRow} {body : ReqEntry → State → Answer} (h : ∀ e, KeepsEvac (fun s => (body e s).state)) :
    KeepsEvac (request row body) := fun s hs => by
  unfold request
  split
  · exact hs
  · simp [h _ s hs]

/-- Fields too short change nothing. -/
theorem keepsEvac_needing {n : Nat} {body : List Byte → State → Answer} (h : ∀ f, KeepsEvac (fun s => (body f s).state))
    (e : ReqEntry) : KeepsEvac (fun s => (needing n body e s).state) := fun s hs => by
  unfold needing
  split
  · exact hs
  · exact h _ s hs

/-- A write to an installation table keeps EVAC where its effect does. -/
theorem keepsEvac_installationWrite {α : Type} {n : Nat} {parse : State → Nat → List Byte → Option α}
    {latched : State → Nat → α → Bool} {effect : Nat → α → State → State} (h : ∀ i a, KeepsEvac (effect i a)) (f : List Byte) :
    KeepsEvac (fun s => (installationWrite n parse latched effect f s).state) := fun s hs => by
  dsimp only [installationWrite]
  repeat' split
  any_goals exact hs
  exact h _ _ s hs

end Sys2Proof.Machine
end

section
/-! EVAC is left only by EVAC_CANCEL and the resets: every command by the block it belongs to. -/

namespace Sys2Proof.Machine

/-- The answer is a state in EVAC. -/
def StaysInEvac (o : Host.Outcome State Fault Refusal) : Prop := ∃ t, o = .next t ∧ t.mode.mode = .evac

/-- A step whose effect leaves the router in EVAC stays there: the end of the step moves no mode. -/
theorem staysInEvac_run {f : State → State} {s : State} (hs : s.mode.mode = .evac) (hf : (f s).mode.mode = .evac) :
    StaysInEvac (run s f) := by
  refine ⟨_, rfl, ?_⟩
  split
  · exact hs
  · simpa using hf

/-- A request whose body keeps EVAC stays there. -/
theorem staysInEvac_request {row : ReqRow} {body : ReqEntry → State → Answer} {s : State} (hs : s.mode.mode = .evac)
    (h : ∀ e, KeepsEvac (fun s => (body e s).state)) : StaysInEvac (run s (request row body)) :=
  staysInEvac_run hs (keepsEvac_request h s hs)

/-- In EVAC the layout is ACTIVE, so that no start-up read, load or reload is under way (R18, R19, R134). -/
theorem State.lifecycle_evac {s : State} (h : s.lifecycle = true) (hs : s.mode.mode = .evac) :
    s.layout = .active ∧ s.store.op ≠ .startUpRead ∧ s.store.op ≠ .load ∧ s.store.op ≠ .layoutReload := by
  simp only [State.lifecycle, hs, Bool.and_eq_true, Bool.or_eq_true, decide_eq_true_eq, reduceCtorEq, false_or] at h
  obtain ⟨⟨⟨⟨⟨⟨hactive, hreload⟩, hread⟩, _⟩, _⟩, _⟩, _⟩ := h
  simp_all

/-- MODE_SET to QUIET, STANDBY or MAINT is refused in EVAC (R125, check 6). -/
theorem keepsEvac_modeSetBody {target : Mode} (h : target ≠ .evac) : KeepsEvac (fun s => (modeSetBody target s).state) := fun s hs => by
  simp only [modeSetBody, hs, Mode.inAlarm, h.symm]
  split <;> exact hs

theorem keepsEvac_modeSetEvacBody : KeepsEvac (fun s => (modeSetEvacBody s).state) := fun s hs => by
  dsimp only [modeSetEvacBody]
  split
  · exact hs
  · exact keepsEvac_evacCause false s hs

theorem keepsEvac_zoneBody {effect : Nat → State → State} (h : ∀ z, KeepsEvac (effect z)) (f : List Byte) :
    KeepsEvac (fun s => (zoneBody effect f s).state) := fun s hs => by
  dsimp only [zoneBody]
  split
  · exact hs
  · exact h _ s hs

theorem keepsEvac_writeDetector (i : Nat) (e : DetectorEntry) : KeepsEvac (writeDetector i e) := fun s hs => by
  have keepsIf : ∀ (b : Bool) (z : Nat), KeepsEvac (fun u => if b = true then recompute z u else u) :=
    fun b z => (keepsEvac_recompute z).guarded (fun _ => b = true)
  exact keepsIf _ _ _ (keepsIf _ _ _ (by simp [hs]))

/-! ### The commands, by block -/

/-- The commands of the panel lines. -/
theorem staysInEvac_panel {s : State} (hs : s.mode.mode = .evac) :
    (∀ c ∈ [Instr.evacInFallingEdge, .evacInRisingEdge, .holdInFallingEdge, .holdInRisingEdge], StaysInEvac (exec c s)) ∧
    (∀ line, StaysInEvac (exec (.panelLineLockoutExpiry line) s)) ∧
    (∀ line level, StaysInEvac (exec (.panelLineLevelChange line level) s)) := by
  have edges : ∀ n l, StaysInEvac (run s (edge n l)) := fun n l => staysInEvac_run hs (keepsEvac_edge n l s hs)
  simp only [List.forall_mem_cons, exec]
  refine ⟨⟨edges _ _, edges _ _, edges _ _, edges _ _, by simp⟩, fun line => staysInEvac_run hs ?_,
    fun line level => ⟨_, rfl, ?_⟩⟩
  · split
    · exact keepsEvac_lookAt line _ (by simpa using hs)
    · exact hs
  · repeat' split
    all_goals simpa using hs

/-- The commands that reach the hazard map: arrivals, the loss of a lane, and the expiries of its own timers. -/
theorem staysInEvac_hazard {s : State} (hs : s.mode.mode = .evac) :
    (∀ bytes, StaysInEvac (exec (.telegramArrival bytes) s)) ∧ (∀ lane cut, StaysInEvac (exec (.laneLossTimeout lane cut) s)) ∧
    (∀ i, StaysInEvac (exec (.silenceTimerExpiry i) s)) ∧ (∀ z, StaysInEvac (exec (.watchDecayExpiry z) s)) := by
  simp only [exec]
  refine ⟨fun bytes => staysInEvac_run hs ?_, fun lane cut => staysInEvac_run hs ?_, fun i => staysInEvac_run hs ?_,
    fun z => staysInEvac_run hs ?_⟩
  · repeat' split
    · exact hs
    · simpa using hs
    · exact keepsEvac_goodArrival _ _ (by simpa using hs)
  · split
    · exact hs
    · simpa using hs
    · exact keepsEvac_laneLost lane cut s hs
  · split
    · exact keepsEvac_recompute _ _ (by simpa using hs)
    · exact hs
  · split
    · exact keepsEvac_recompute _ _ (by simpa using hs)
    · exact hs

/-- The commands of Port A and Port B that do not reach the hazard map. -/
theorem staysInEvac_ports {s : State} (hs : s.mode.mode = .evac) :
    (∀ lane, StaysInEvac (exec (.laneActivityAppears lane) s)) ∧ (∀ lane, StaysInEvac (exec (.laneRestoreExpiry lane) s)) ∧
    (∀ lane seen, StaysInEvac (exec (.trainingRequestSeen lane seen) s)) ∧
    (∀ l0 l1, StaysInEvac (exec (.laneStatusReport l0 l1) s)) ∧ StaysInEvac (exec .returnLaneSilence s) ∧
    (∀ h g m c x, StaysInEvac (exec (.creditGrant h g m c x) s)) ∧ (∀ k, StaysInEvac (exec (.creditReturn k) s)) := by
  simp only [exec]
  and_intros
  all_goals
    intros
    refine staysInEvac_run hs ?_
    repeat' split
    all_goals simpa using hs

/-- The commands of the forward path, the cadence, the address and the uptime clock. -/
theorem staysInEvac_loop {s : State} (hs : s.mode.mode = .evac) :
    (∀ cls, StaysInEvac (exec (.creditStallExpiry cls) s)) ∧ (∀ n, StaysInEvac (exec (.roundLimitExpiry n) s)) ∧
    ∀ c ∈ [Instr.arbiterTake, .transmissionComplete, .poolSample, .creditWaitSample, .beatTimerExpiry, .retiredAddressDrop,
      .uptimeTick], StaysInEvac (exec c s) := by
  simp only [List.forall_mem_cons, List.not_mem_nil, false_implies, implies_true, and_true, exec]
  and_intros
  all_goals
    intros
    refine staysInEvac_run hs ?_
    repeat' split
    all_goals simpa using hs

/-- The commands of the route solver. -/
theorem staysInEvac_solver {s : State} (hs : s.mode.mode = .evac) :
    ∀ c ∈ [Instr.solveTake, .sweep, .solveSelect, .solveCommit, .recheckExpiry], StaysInEvac (exec c s) := by
  simp only [List.forall_mem_cons, List.not_mem_nil, false_implies, implies_true, and_true, exec]
  and_intros
  all_goals
    refine staysInEvac_run hs ?_
    repeat' split
    all_goals simpa using hs

/-- The timers of the signs. -/
theorem staysInEvac_signs {s : State} (hs : s.mode.mode = .evac) :
    (∀ i, StaysInEvac (exec (.holdTimerExpiry i) s)) ∧ (∀ i, StaysInEvac (exec (.confirmTimerExpiry i) s)) ∧
    ∀ c ∈ [Instr.refreshTimerExpiry, .defaultRepeatExpiry], StaysInEvac (exec c s) := by
  simp only [List.forall_mem_cons, List.not_mem_nil, false_implies, implies_true, and_true, exec]
  and_intros
  all_goals
    intros
    refine staysInEvac_run hs ?_
    dsimp only
    split
    all_goals simpa using hs

/-- The timers of the boundaries, the notices and the captures. -/
theorem staysInEvac_timers {s : State} (hs : s.mode.mode = .evac) :
    (∀ b, StaysInEvac (exec (.ageTimerExpiry b) s)) ∧
    ∀ c ∈ [Instr.advertPeriodExpiry, .noticeSpacingExpiry, .capturePeriodExpiry], StaysInEvac (exec c s) := by
  simp only [List.forall_mem_cons, List.not_mem_nil, false_implies, implies_true, and_true, exec]
  and_intros
  all_goals
    intros
    refine staysInEvac_run hs ?_
    split
    all_goals simpa [foldl_field State.mode duePeriodic (by simp)] using hs

/-- The end of a save, and the request handler's own commands. -/
theorem staysInEvac_handler {s : State} (hs : s.mode.mode = .evac) :
    (∀ ok, StaysInEvac (exec (.storeSaveEnd ok) s)) ∧
    ∀ c ∈ [Instr.completionResponsePlacement, .restart, .restartComplete], StaysInEvac (exec c s) := by
  simp only [List.forall_mem_cons, List.not_mem_nil, false_implies, implies_true, and_true, exec]
  and_intros
  all_goals
    intros
    refine staysInEvac_run hs ?_
    repeat' split
    all_goals simpa using hs

/-- The requests that reach the mode controller or the hazard map, but for EVAC_CANCEL. -/
theorem staysInEvac_modeRequest {s : State} (hs : s.mode.mode = .evac) :
    ∀ c ∈ [Instr.modeSetQuiet, .modeSetStandby, .modeSetMaint, .modeSetEvac, .zoneReset, .zoneIsolateOn, .zoneIsolateOff, .zoneConfirm,
      .entryWriteZone, .entryWriteDetector], StaysInEvac (exec c s) := by
  have modeSet : ∀ target ≠ .evac, ∀ row, StaysInEvac (run s (request row (plain fun s => withMode (modeSetBody target s)))) :=
    fun _ h _ => staysInEvac_request hs fun _ => keepsEvac_modeSetBody h
  have zone : ∀ effect : Nat → State → State, (∀ z, KeepsEvac (effect z)) → ∀ row n,
      StaysInEvac (run s (request row (needing n (zoneBody effect)))) :=
    fun _ h _ _ => staysInEvac_request hs (keepsEvac_needing (keepsEvac_zoneBody h))
  have recomputed : ∀ (z : Nat) (f : State → State), (∀ u, (f u).mode = u.mode) → KeepsEvac (fun u => recompute z (f u)) :=
    fun z _ h => (keepsEvac_recompute z).comp (.of_mode h)
  simp only [List.forall_mem_cons, List.not_mem_nil, false_implies, implies_true, and_true, exec]
  exact ⟨modeSet _ (by decide) _, modeSet _ (by decide) _, modeSet _ (by decide) _,
    staysInEvac_request hs fun _ => keepsEvac_modeSetEvacBody,
    zone _ (fun z => recomputed z _ (by simp)) _ _, zone _ (fun z => recomputed z _ (by simp)) _ _,
    zone _ (fun z => recomputed z _ (by simp)) _ _, zone _ (fun z => recomputed z _ (by simp)) _ _,
    staysInEvac_request hs (keepsEvac_needing (keepsEvac_installationWrite fun z _ => recomputed z _ (by simp))),
    staysInEvac_request hs (keepsEvac_needing (keepsEvac_installationWrite keepsEvac_writeDetector))⟩

/-- The requests about the layout, the store and the address. -/
theorem staysInEvac_layoutRequest {s : State} (hs : s.mode.mode = .evac) :
    (∀ straps, StaysInEvac (exec (.addressTake straps) s)) ∧
    ∀ c ∈ [Instr.entryWriteLayoutHeader, .entryWritePlace, .entryWritePassage, .entryWriteSign, .entryWriteBoundary,
      .entryWriteOtherTable, .layoutOpen, .layoutClose, .layoutDiscard, .storeSave, .storeLoad], StaysInEvac (exec c s) := by
  simp only [List.forall_mem_cons, List.not_mem_nil, false_implies, implies_true, and_true, exec]
  and_intros
  all_goals
    intros
    refine staysInEvac_request hs fun e => .of_mode fun u => ?_
    dsimp only [plain, needing, layoutWrite, layoutOpenBody, layoutCloseBody, layoutDiscardBody, storeSaveBody, storeLoadBody,
      addressTakeBody]
    repeat' split
    all_goals simp

/-- The requests about exits, the solver, captures, notices and counters, and those that are refused or read alone. -/
theorem staysInEvac_otherRequest {s : State} (hs : s.mode.mode = .evac) :
    ∀ c ∈ [Instr.unknownKind, .statusRead, .entryRead, .entryWriteExit, .entryWriteParameter, .modeSetBadTarget,
      .zoneIsolateBadSetting, .exitSet, .solveNow, .captureTake, .captureReadPart0, .captureReadPart1, .captureReadPart2,
      .captureReadBadPart, .incidentRelease, .noticeSet, .noticeClear, .counterSet, .counterRead, .freeze, .unfreeze, .zeroAll,
      .clearOverflow, .counterControlBadAction],
      StaysInEvac (exec c s) := by
  simp only [List.forall_mem_cons, List.not_mem_nil, false_implies, implies_true, and_true, exec]
  and_intros
  all_goals
    refine staysInEvac_request hs fun e => .of_mode fun u => ?_
    dsimp only [plain, refuse, needing, statusReadBody, entryReadBody, installationWrite, exitSetBody, solveNowBody, captureTakeBody,
      captureRead0Body, captureRead1Body, captureRead2Body, noticeSetBody, noticeClearBody, counterSetBody, counterReadBody]
    repeat' split
    all_goals simp

/-- The ends of operations that by the lifecycle are not under way in EVAC. -/
theorem staysInEvac_ends {s : State} (hs : s.mode.mode = .evac) (hlife : s.lifecycle = true) :
    (∀ ok, StaysInEvac (exec (.startUpReadEnd ok) s)) ∧ (∀ ok, StaysInEvac (exec (.layoutReloadEnd ok) s)) ∧
    (∀ ok, StaysInEvac (exec (.storeLoadEnd ok) s)) ∧ StaysInEvac (exec .validationEnd s) := by
  obtain ⟨hactive, hread, hload, hreload⟩ := State.lifecycle_evac hlife hs
  have hvalid : s.layout ≠ .validating := by simp [hactive]
  simp only [exec]
  exact ⟨fun _ => staysInEvac_run hs (by rwa [if_neg hread]), fun _ => staysInEvac_run hs (by rwa [if_neg hreload]),
    fun _ => staysInEvac_run hs (by rwa [if_neg hload]), staysInEvac_run hs (by rwa [if_neg hvalid])⟩

/-- START_UP leaves the mode as it is. -/
theorem staysInEvac_startUp {s : State} (hs : s.mode.mode = .evac) (straps : Byte) : StaysInEvac (exec (.startUp straps) s) := by
  refine ⟨_, rfl, ?_⟩
  split
  · simpa using hs
  · exact hs

/-- Settles O13: by the block a command belongs to. -/
theorem evacIsLeftOnlyByCancelOrReset : Obligations.EvacIsLeftOnlyByCancelOrReset := by
  intro c s hlife hs hcancel hpower hpin
  obtain ⟨edges, lockout, level⟩ := staysInEvac_panel hs
  obtain ⟨arrival, laneLoss, silence, watch⟩ := staysInEvac_hazard hs
  obtain ⟨activity, restore, training, laneStatus, laneSilence, grant, creditReturn⟩ := staysInEvac_ports hs
  obtain ⟨stall, roundLimit, loop⟩ := staysInEvac_loop hs
  obtain ⟨hold, confirm, signs⟩ := staysInEvac_signs hs
  obtain ⟨age, timers⟩ := staysInEvac_timers hs
  obtain ⟨save, handler⟩ := staysInEvac_handler hs
  obtain ⟨address, layout⟩ := staysInEvac_layoutRequest hs
  obtain ⟨startUpRead, reload, load, validation⟩ := staysInEvac_ends hs hlife
  cases c
  case evacCancel | powerReset | pinReset => contradiction
  case startUp straps => exact staysInEvac_startUp hs straps
  case startUpReadEnd ok => exact startUpRead ok
  case layoutReloadEnd ok => exact reload ok
  case storeLoadEnd ok => exact load ok
  case validationEnd => exact validation
  case evacInFallingEdge | evacInRisingEdge | holdInFallingEdge | holdInRisingEdge => exact edges _ (by simp)
  case panelLineLockoutExpiry line => exact lockout line
  case panelLineLevelChange line l => exact level line l
  case telegramArrival bytes => exact arrival bytes
  case laneLossTimeout lane cut => exact laneLoss lane cut
  case silenceTimerExpiry i => exact silence i
  case watchDecayExpiry z => exact watch z
  case laneActivityAppears lane => exact activity lane
  case laneRestoreExpiry lane => exact restore lane
  case trainingRequestSeen lane seen => exact training lane seen
  case laneStatusReport l0 l1 => exact laneStatus l0 l1
  case returnLaneSilence => exact laneSilence
  case creditGrant h g m c x => exact grant h g m c x
  case creditReturn k => exact creditReturn k
  case creditStallExpiry cls => exact stall cls
  case roundLimitExpiry n => exact roundLimit n
  case arbiterTake | transmissionComplete | poolSample | creditWaitSample | beatTimerExpiry | retiredAddressDrop | uptimeTick =>
    exact loop _ (by simp)
  case solveTake | sweep | solveSelect | solveCommit | recheckExpiry => exact staysInEvac_solver hs _ (by simp)
  case holdTimerExpiry i => exact hold i
  case confirmTimerExpiry i => exact confirm i
  case refreshTimerExpiry | defaultRepeatExpiry => exact signs _ (by simp)
  case ageTimerExpiry b => exact age b
  case advertPeriodExpiry | noticeSpacingExpiry | capturePeriodExpiry => exact timers _ (by simp)
  case storeSaveEnd ok => exact save ok
  case completionResponsePlacement | restart | restartComplete => exact handler _ (by simp)
  case modeSetQuiet | modeSetStandby | modeSetMaint | modeSetEvac | zoneReset | zoneIsolateOn | zoneIsolateOff | zoneConfirm |
      entryWriteZone | entryWriteDetector =>
    exact staysInEvac_modeRequest hs _ (by simp)
  case addressTake straps => exact address straps
  case entryWriteLayoutHeader | entryWritePlace | entryWritePassage | entryWriteSign | entryWriteBoundary | entryWriteOtherTable |
      layoutOpen | layoutClose | layoutDiscard | storeSave | storeLoad =>
    exact layout _ (by simp)
  all_goals exact staysInEvac_otherRequest hs _ (by simp)

end Sys2Proof.Machine
end

section
/-! The requests of the mode controller: MODE_SET and EVAC_CANCEL, check by check (R125, R126). -/

namespace Sys2Proof.Machine

/-- A refusal carries the mode alone. -/
theorem withMode_refuse (x : Status) (s : State) : withMode (refuse x s) = ⟨x, [byte (modeCode s.mode.mode)], s⟩ := rfl

/-- An OK carries the mode after the effect. -/
theorem withMode_done (s : State) : withMode (done s) = ⟨.ok, [byte (modeCode s.mode.mode)], s⟩ := rfl

/-! ### MODE_SET to QUIET, STANDBY and MAINT -/

section ModeSet

variable {target : Mode} {s : State}

/-- Check 3: the start wait. -/
theorem modeSetBody_startWait (hw : s.mode.startWait = true) : modeSetBody target s = refuse .busy s := if_pos hw

/-- Check 5: the mode asked for is the mode already. -/
theorem modeSetBody_present (hw : s.mode.startWait = false) (hm : s.mode.mode = target) : modeSetBody target s = done s := by
  simp [modeSetBody, hw, hm]

/-- Check 6: ALERT and EVAC are not left by MODE_SET. -/
theorem modeSetBody_alarm (hw : s.mode.startWait = false) (hm : s.mode.mode ≠ target)
    (ha : s.mode.mode = .alert ∨ s.mode.mode = .evac) : modeSetBody target s = refuse .wrongMode s := by
  have hin : s.mode.mode.inAlarm = true := by simpa [Mode.inAlarm] using ha
  simp [modeSetBody, hw, hm, hin]

/-- Check 7: MAINT is left with a layout ACTIVE alone. -/
theorem modeSetBody_noLayout (hw : s.mode.startWait = false) (hm : s.mode.mode ≠ target) (ha : s.mode.mode = .maint)
    (hl : s.layout ≠ .active) : modeSetBody target s = refuse .noLayout s := by
  simp [modeSetBody, hw, ha ▸ hm, ha, hl, Mode.inAlarm]

/-- Past check 7 the hazard decides (check 8). -/
theorem modeSetBody_free (hw : s.mode.startWait = false) (hm : s.mode.mode ≠ target)
    (ha : s.mode.mode = .quiet ∨ s.mode.mode = .standby ∨ (s.mode.mode = .maint ∧ s.layout = .active)) :
    modeSetBody target s =
      if target ≠ .maint ∧ hazardPresent s = true then refuse .hazardPresent s else done (changeMode target false s) := by
  obtain hq | hq | ⟨hq, hl⟩ := ha
  · simp [modeSetBody, hw, hq ▸ hm, hq, Mode.inAlarm]
  · simp [modeSetBody, hw, hq ▸ hm, hq, Mode.inAlarm]
  · simp [modeSetBody, hw, hq ▸ hm, hq, hl, Mode.inAlarm]

/-- MODE_SET to QUIET, STANDBY or MAINT begun executes its body. -/
theorem answers_modeSet {c : Instr} {row : ReqRow} {e : ReqEntry}
    (hc : (c = .modeSetQuiet ∧ row = .modeSetQuiet ∧ target = .quiet) ∨
      (c = .modeSetStandby ∧ row = .modeSetStandby ∧ target = .standby) ∨
      (c = .modeSetMaint ∧ row = .modeSetMaint ∧ target = .maint)) (hb : Begins row e s) :
    Answers c s e (withMode (modeSetBody target s)).status (withMode (modeSetBody target s)).fields (modeSetBody target s).state := by
  obtain ⟨rfl, rfl, rfl⟩ | ⟨rfl, rfl, rfl⟩ | ⟨rfl, rfl, rfl⟩ := hc
  · exact run_request (plain fun s => withMode (modeSetBody .quiet s)) hb
  · exact run_request (plain fun s => withMode (modeSetBody .standby s)) hb
  · exact run_request (plain fun s => withMode (modeSetBody .maint s)) hb

end ModeSet

/-- Settles O10: the first check that fails answers. -/
theorem modeSetIsJudgedInOrder : Obligations.ModeSetIsJudgedInOrder := by
  refine ⟨fun c row target e s hc hb => ?_,
    fun e s hb => run_request (plain fun s => withMode (refuse .badField s)) hb⟩
  have answers := answers_modeSet hc hb
  refine ⟨fun hw => ?_, fun hw => ⟨fun hm => ?_, fun hm => ⟨fun ha => ?_, fun ha hl => ?_, fun ha ht hz => ?_, fun ha hz => ?_⟩⟩⟩
  · rwa [modeSetBody_startWait hw] at answers
  · rwa [modeSetBody_present hw hm] at answers
  · rwa [modeSetBody_alarm hw hm ha] at answers
  · rwa [modeSetBody_noLayout hw hm ha hl] at answers
  · rwa [modeSetBody_free hw hm ha, if_pos ⟨ht, hz⟩] at answers
  · have hfree : ¬(target ≠ .maint ∧ hazardPresent s = true) := by
      obtain ht | hz := hz
      · simp [ht]
      · simp [hz]
    rw [modeSetBody_free hw hm ha, if_neg hfree, withMode_done, changeMode_mode_mode] at answers
    exact answers

/-! ### EVAC and its cancelling -/

/-- MODE_SET EVAC begun executes its body. -/
theorem answers_modeSetEvac {e : ReqEntry} {s : State} (hb : Begins .modeSetEvac e s) :
    Answers .modeSetEvac s e (withMode (modeSetEvacBody s)).status (withMode (modeSetEvacBody s)).fields (modeSetEvacBody s).state :=
  run_request (plain fun s => withMode (modeSetEvacBody s)) hb

/-- EVAC_CANCEL begun executes its body. -/
theorem answers_evacCancel {e : ReqEntry} {s : State} (hb : Begins .evacCancel e s) :
    Answers .evacCancel s e (withMode (evacCancelBody s)).status (withMode (evacCancelBody s)).fields (evacCancelBody s).state :=
  run_request (plain fun s => withMode (evacCancelBody s)) hb

/-- Outside the start wait MODE_SET EVAC is an EVAC cause. -/
theorem modeSetEvacBody_cause {s : State} (hw : s.mode.startWait = false) : modeSetEvacBody s = done (evacCause false s) := by
  simp [modeSetEvacBody, hw]

/-- With no EVAC demand and no DENSE zone EVAC is left, for ALERT where a hazard is present. -/
theorem evacCancelBody_left {s : State} (hw : s.mode.startWait = false) (hm : s.mode.mode = .evac) (hd : s.mode.evacDemand = false)
    (hz : anyDense s = false) : evacCancelBody s = done (changeMode (if hazardPresent s then .alert else .standby) false s) := by
  simp [evacCancelBody, hw, hm, hd, hz]

/-- In EVAC a HAZARD_PRESENT answer carries its reason, then the mode (log 15). -/
theorem withMode_reason (reason : Byte) {s : State} (hm : s.mode.mode = .evac) :
    withMode ⟨.hazardPresent, [reason], s⟩ = ⟨.hazardPresent, [reason, 3], s⟩ := by
  simp [withMode, hm, num1, byte, modeCode]

/-- Settles O11: check by check. -/
theorem evacIsSetAndCancelled : Obligations.EvacIsSetAndCancelled := by
  refine ⟨fun e s hb => ?_, fun e s hb => ?_⟩
  · have answers := answers_modeSetEvac hb
    refine ⟨fun hw => ?_, fun hw hm => ?_, fun hw hm hn => ?_, fun hw hm => ?_⟩
    · rwa [show modeSetEvacBody s = done { s with mode := { s.mode with heldEvac := true } } from if_pos hw] at answers
    · rwa [modeSetEvacBody_cause hw, evacCause_evac hm, withMode_done, hm] at answers
    · rwa [modeSetEvacBody_cause hw, evacCause_entry hn, withMode_done, changeMode_mode_mode] at answers
    · rwa [modeSetEvacBody_cause hw, evacCause_maint hm] at answers
  · have answers := answers_evacCancel hb
    refine ⟨fun hw => ?_, fun hw hm => ?_, fun hw hm => ⟨fun hd => ?_, fun hd hz => ?_, fun hd hz hp => ?_, fun hd hz hp => ?_⟩⟩
    · rwa [show evacCancelBody s = refuse .busy s from if_pos hw] at answers
    · rwa [show evacCancelBody s = refuse .wrongMode s by simp [evacCancelBody, hw, hm]] at answers
    · rwa [show evacCancelBody s = ⟨.hazardPresent, [0], s⟩ by simp [evacCancelBody, hw, hm, hd], withMode_reason _ hm] at answers
    · rwa [show evacCancelBody s = ⟨.hazardPresent, [1], s⟩ by simp [evacCancelBody, hw, hm, hd, hz], withMode_reason _ hm] at answers
    · rwa [evacCancelBody_left hw hm hd hz, hp, withMode_done, changeMode_mode_mode] at answers
    · rwa [evacCancelBody_left hw hm hd hz, hp, withMode_done, changeMode_mode_mode] at answers

end Sys2Proof.Machine
end

section
/-! The fire path: what a fire cause does by the layout lifecycle (R127 to R130). -/

namespace Sys2Proof.Machine

/-! ### The SHOW_DEFAULT slot -/

@[simp] theorem joinOrdinary_defaultSlot (i : Nat) (s : State) : (joinOrdinary i s).signs.defaultSlot = s.signs.defaultSlot := by
  unfold joinOrdinary
  split <;> rfl

@[simp] theorem joinForced_defaultSlot (i : Nat) (s : State) : (joinForced i s).signs.defaultSlot = s.signs.defaultSlot := by
  unfold joinForced
  split <;> rfl

/-- An evaluation leaves the SHOW_DEFAULT slot as it was. -/
theorem evaluate_defaultSlot (i : Nat) (s : State) : (evaluate i s).signs.defaultSlot = s.signs.defaultSlot := by
  unfold evaluate
  cases evalCase s i <;> simp [leaveQueue, setHeld, setSignRt]

/-- The presentation rule leaves the SHOW_DEFAULT slot as it was. -/
theorem presentAll_defaultSlot (s : State) : (presentAll s).signs.defaultSlot = s.signs.defaultSlot :=
  foldl_field (fun s => s.signs.defaultSlot) represent (fun _ i => evaluate_defaultSlot i _) _ s

/-- A mode change leaves the SHOW_DEFAULT slot as it was. -/
theorem changeMode_defaultSlot (m : Mode) (line : Bool) (s : State) :
    (changeMode m line s).signs.defaultSlot = s.signs.defaultSlot := by
  have hpresent : (presentAll (setMode m s)).signs.defaultSlot = s.signs.defaultSlot := by simp [presentAll_defaultSlot]
  dsimp only [changeMode]
  repeat' split
  all_goals simp [emptyQueue, hpresent]

/-- A SHOW_DEFAULT is placed while the router is addressed; one that waits is left (R104). -/
theorem placeDefault_signs (s : State) :
    (placeDefault s).signs = { s.signs with defaultSlot := addressed s || s.signs.defaultSlot } := by
  unfold placeDefault
  split
  · next h => simp [h]
  · next h => simp [h]

/-- Placing a SHOW_DEFAULT moves the sign scheduler alone. -/
theorem placeDefault_eq (s : State) : placeDefault s = { s with signs := (placeDefault s).signs } := by
  unfold placeDefault
  split <;> rfl

/-! ### Entering the fire path -/

/-- The router with the fire target and the line cause of a fire cause (R127). -/
def withCause (evac line : Bool) (s : State) : State := { s with mode := { s.mode with fireEvac := evac, lineCause := line } }

/-- While a fire path waits, a further cause only raises its target and its line cause (R130). -/
theorem fireCause_waiting {s : State} (hw : s.mode.fireWaiting = true) (evac line : Bool) : fireCause evac line s =
    { s with mode := { s.mode with fireEvac := s.mode.fireEvac || evac, lineCause := s.mode.lineCause || line } } := if_pos hw

/-- A cause with no fire path waiting enters the fire path. -/
theorem fireCause_idle {s : State} (hw : s.mode.fireWaiting = false) (evac line : Bool) :
    fireCause evac line s = fireByLayout (withCause evac line s) := if_neg (by simp [hw])

section ByLayout

variable {s : State} (hw : s.mode.fireWaiting = false) (evac line : Bool)

include hw

theorem fireCause_active (h : s.layout = .active) : fireCause evac line s = fireActive (withCause evac line s) := by
  simp [fireCause_idle hw, fireByLayout, withCause, h]

theorem fireCause_editing (h : s.layout = .editing) : fireCause evac line s = fireEditing (withCause evac line s) := by
  simp [fireCause_idle hw, fireByLayout, withCause, h]

theorem fireCause_none (h : s.layout = .none) : fireCause evac line s = fireNone (withCause evac line s) := by
  simp [fireCause_idle hw, fireByLayout, withCause, h]

theorem fireCause_busy (h : s.layout = .validating ∨ s.layout = .reloading) :
    fireCause evac line s = fireWait (withCause evac line s) := by
  obtain h | h := h <;> simp [fireCause_idle hw, fireByLayout, withCause, h]

end ByLayout

/-! ### The cases -/

@[simp] theorem fireIdle_mode (s : State) : (fireIdle s).mode = { s.mode with fireWaiting := false, lineCause := false } := rfl

/-- The ACTIVE case leaves the fire path IDLE in the mode it sets (R128). -/
theorem fireActive_mode (s : State) : (fireActive s).mode =
    { (changeMode (fireMode s) s.mode.lineCause s).mode with fireWaiting := false, lineCause := false } := by simp [fireActive]

/-- The ACTIVE case calls for a solve, which the mode change does not reach (R128). -/
theorem fireActive_solver (s : State) : (fireActive s).solver = (solveTrigger false s).solver := by
  simp [fireActive, solveTrigger_solver_congr false (changeMode_frame (fireMode s) s.mode.lineCause s).2.2.2.1]

/-- The EDITING case waits for the reload it starts (R129). -/
theorem fireEditing_eq (s : State) : fireEditing s =
    { s with layout := .reloading, store := { s.store with op := .layoutReload }, signs := (placeDefault s).signs,
             mode := { s.mode with fireWaiting := true } } := by
  rw [fireEditing, placeDefault_eq]
  rfl

theorem fireNone_mode (s : State) : (fireNone s).mode = { s.mode with fireWaiting := false, lineCause := false } := by
  simp [fireNone]

theorem fireNone_signs (s : State) : (fireNone s).signs = { s.signs with defaultSlot := addressed s || s.signs.defaultSlot } := by
  simp [fireNone, placeDefault_signs]

/-- The NONE case latches ROUTE_LOST with detail 1 (R129). -/
theorem fireNone_routeLost {s : State} (h : Tab.wf CauseRec.reset s.notices.causes = true) :
    causeRec (fireNone s) 2 = { causeRec s 2 with latched := true, detail := 1 } := by
  have hlatch := causeRec_latch_same .routeLost 1 (placeDefault s) (by simpa using h)
  have hrec : causeRec (placeDefault s) 2 = causeRec s 2 := by simp [causeRec]
  exact hrec ▸ hlatch

theorem fireNone_keeps (s : State) : KeepsAllBut [.mode, .notices, .signs] s (fireNone s) := by
  intro p hp
  cases p <;> simp_all [Part.same]

/-- The mode the ACTIVE case sets: EVAC for a cause of EVAC or a DENSE zone, else by the hazard (R128). -/
theorem fireMode_withCause (evac line : Bool) (s : State) : fireMode (withCause evac line s) =
    if evac = true ∨ anyDense s = true then .evac else if hazardPresent s = true then .alert else .standby := by
  simp only [← Bool.or_eq_true]
  rfl

/-- The ACTIVE case leaves the SHOW_DEFAULT slot as it was. -/
theorem fireActive_defaultSlot (s : State) : (fireActive s).signs.defaultSlot = s.signs.defaultSlot := by
  simp [fireActive, changeMode_defaultSlot]

/-- The fire target and the line cause are the mode controller's. -/
theorem withCause_keeps (evac line : Bool) (s : State) : KeepsAllBut [.mode] s (withCause evac line s) := by
  intro p hp
  cases p <;> simp_all [Part.same, withCause]

/-- Settles O12: by the layout lifecycle. -/
theorem firePathActsByTheLayout : Obligations.FirePathActsByTheLayout := by
  intro s evac line hcan _
  obtain ⟨_, _, _, _, _, _, _, hcauses, _⟩ := s.canonical_iff.1 hcan
  refine ⟨fun hw => fireCause_waiting hw evac line, fun hw hl => ?_, fun hw hl => ?_, fun hw hl => ?_, fun hw hl => ?_⟩
  · rw [fireCause_active hw evac line hl]
    have hsolver : (solveTrigger false (withCause evac line s)).solver = (solveTrigger false s).solver :=
      solveTrigger_solver_congr false rfl rfl
    refine ⟨?_, by rw [fireActive_mode], by rw [fireActive_mode], by rw [fireActive_solver, hsolver],
      by simpa [withCause] using hl, fireActive_defaultSlot _⟩
    rw [fireActive_mode, ← fireMode_withCause evac line s]
    exact changeMode_mode_mode _ _ _
  · rw [fireCause_editing hw evac line hl, fireEditing_eq, placeDefault_signs]
    rfl
  · rw [fireCause_none hw evac line hl]
    refine ⟨?_, fireNone_signs _, fireNone_routeLost (s := withCause evac line s) hcauses,
      ((withCause_keeps evac line s).trans (fireNone_keeps _)).mono (by simp)⟩
    rw [fireNone_mode, withCause, ← hw]
  · rw [fireCause_busy hw evac line hl]
    rfl

end Sys2Proof.Machine
end

section
/-! The panel lines: how an edge is accepted, and what an accepted edge does (R131 to R133). -/

namespace Sys2Proof.Machine

/-! ### Looking at a line -/

@[simp] theorem panelLine_setPanelLine (n : PanelLineName) (p : PanelLine) (s : State) : panelLine (setPanelLine n p s) n = p := by
  cases n <;> rfl

@[simp] theorem setPanelLine_setPanelLine (n : PanelLineName) (p q : PanelLine) (s : State) :
    setPanelLine n p (setPanelLine n q s) = setPanelLine n p s := by cases n <;> rfl

/-- A change of the mode controller alone. -/
theorem keeps_mode (m : ModeCtl) (s : State) : KeepsAllBut [.mode] s { s with mode := m } := by
  intro p hp
  cases p <;> simp_all [Part.same]

theorem setPanelLine_keeps (n : PanelLineName) (p : PanelLine) (s : State) : KeepsAllBut [.mode] s (setPanelLine n p s) := by
  cases n <;> exact keeps_mode _ s

/-- A line at its accepted level gives no edge (R131). -/
theorem lookAt_unchanged {n : PanelLineName} {s : State} (h : (panelLine s n).raw = (panelLine s n).accepted) : lookAt n s = s := by
  simp [lookAt, h]

/-- A line off its accepted level, its lockout stopped, gives an edge and runs the lockout anew (R131). -/
theorem lookAt_changed {n : PanelLineName} {s : State} (hl : (panelLine s n).lockout = none)
    (h : (panelLine s n).raw ≠ (panelLine s n).accepted) : lookAt n s =
      edgeTaken n (panelLine s n).raw (setPanelLine n ⟨(panelLine s n).raw, (panelLine s n).raw, some 20⟩ s) := by
  simp [lookAt, hl, h, millis]

/-- An edge of a line that is looked at is accepted (R131). -/
theorem edge_accepted {n : PanelLineName} {l : Level} {s : State} (hw : s.mode.startWait = false)
    (hl : (panelLine s n).lockout = none) (ha : (panelLine s n).accepted ≠ l) :
    edge n l s = edgeTaken n l (setPanelLine n ⟨l, l, some 20⟩ s) := by
  have hlooked : lookedAt n s = true := by simp [lookedAt, hw, hl]
  rw [edge, if_pos hlooked, lookAt_changed (by simpa using hl) (by simpa using ha.symm)]
  simp

/-! ### The mode controller after an accepted edge -/

/-- The fire path leaves the start wait, the lines, the EVAC demand and a held EVAC as they were. -/
@[simp] theorem fireCause_mode_frame (evac line : Bool) (s : State) :
    (fireCause evac line s).mode.startWait = s.mode.startWait ∧ (fireCause evac line s).mode.heldEvac = s.mode.heldEvac ∧
    (fireCause evac line s).mode.evacDemand = s.mode.evacDemand ∧ (fireCause evac line s).mode.evacLine = s.mode.evacLine ∧
    (fireCause evac line s).mode.holdLine = s.mode.holdLine := by
  unfold fireCause fireByLayout
  repeat' split
  all_goals simp [fireActive_mode, fireNone_mode, fireEditing_eq, fireWait]

/-- An EVAC cause leaves the start wait, the lines, the EVAC demand and a held EVAC as they were. -/
@[simp] theorem evacCause_mode_frame (line : Bool) (s : State) :
    (evacCause line s).mode.startWait = s.mode.startWait ∧ (evacCause line s).mode.heldEvac = s.mode.heldEvac ∧
    (evacCause line s).mode.evacDemand = s.mode.evacDemand ∧ (evacCause line s).mode.evacLine = s.mode.evacLine ∧
    (evacCause line s).mode.holdLine = s.mode.holdLine := by
  unfold evacCause
  split <;> simp

/-- What an accepted edge may reach. -/
theorem edgeTaken_keeps (n : PanelLineName) (l : Level) (s : State) :
    KeepsAllBut [.layout, .store, .solver, .signs, .mode, .cadence, .notices, .captures, .counters] s (edgeTaken n l s) := by
  intro p hp
  cases p <;> simp_all [Part.same]

/-- An accepted edge leaves both lines as they were. -/
theorem panelLine_edgeTaken (n : PanelLineName) (l : Level) (s : State) (m : PanelLineName) :
    panelLine (edgeTaken n l s) m = panelLine s m := by
  match n, l with
  | .evacIn, .active => cases m <;> simp [edgeTaken, panelLine]
  | .evacIn, .inactive => cases m <;> rfl
  | .holdIn, .active => cases m <;> simp only [edgeTaken, panelLine] <;> split <;> rfl
  | .holdIn, .inactive => cases m <;> rfl

/-- The EVAC demand follows the accepted level of EVAC_IN (R132). -/
theorem edgeTaken_evacDemand (l : Level) (s : State) : (edgeTaken .evacIn l s).mode.evacDemand = decide (l = .active) := by
  cases l <;> simp [edgeTaken]

/-- A falling edge of EVAC_IN is an EVAC entry outside MAINT (R132). -/
theorem edgeTaken_evacIn_mode {s : State} (h : s.mode.mode ≠ .maint) : (edgeTaken .evacIn .active s).mode.mode = .evac := by
  exact (congrArg (fun u => u.mode.mode) (evacCause_entry (s := { s with mode := { s.mode with evacDemand := true } }) h true)).trans
     (changeMode_mode_mode _ _ _)

/-- A falling edge of HOLD_IN starts the freeze in STANDBY or QUIET with the store not SAVING (R133). -/
theorem edgeTaken_holdIn_active (s : State) : edgeTaken .holdIn .active s =
    { s with mode := { s.mode with frozen := s.mode.frozen ||
      ((decide (s.mode.mode = .standby) || decide (s.mode.mode = .quiet)) && decide (s.store.op ≠ .save)) } } := by
  simp only [← Bool.decide_or, ← Bool.decide_and, edgeTaken]
  split
  · next h => simp [h]
  · next h => simp [h]

/-! ### The steps -/

theorem settle_mode (b s : State) : (settle b s).mode = s.mode := by simp

theorem panelLine_settle (b s : State) (n : PanelLineName) : panelLine (settle b s) n = panelLine s n := by
  cases n <;> simp [panelLine]

/-- A command that is the edge of a looked-at line executes what the accepted edge does. -/
theorem exec_edge {c : Instr} {n : PanelLineName} {l : Level} {s : State} (hc : exec c s = run s (edge n l)) (hs : s.inReset = false)
    (hw : s.mode.startWait = false) (hl : (panelLine s n).lockout = none) (ha : (panelLine s n).accepted ≠ l) :
    exec c s = .next (settle s (edgeTaken n l (setPanelLine n ⟨l, l, some 20⟩ s))) := by
  rw [hc, run_running s _ hs, edge_accepted hw hl ha]

/-- A lockout that has run out stops, and the line is looked at (R131). -/
theorem exec_panelLineLockoutExpiry {s : State} {n : PanelLineName} (hs : s.inReset = false) (hl : (panelLine s n).lockout = some 0) :
    exec (.panelLineLockoutExpiry n) s =
      .next (settle s (lookAt n (setPanelLine n { panelLine s n with lockout := none } s))) := by
  refine (run_running s _ hs).trans ?_
  rw [if_pos hl]

/-- A level change of a line that is not looked at is kept (R131). -/
theorem exec_panelLineLevelChange {s : State} {n : PanelLineName} (v : Level)
    (h : s.inReset = true ∨ s.mode.startWait = true ∨ (panelLine s n).lockout.isSome = true) :
    ∃ t, exec (.panelLineLevelChange n v) s = .next t ∧ t.mode = (setPanelLine n { panelLine s n with raw := v } s).mode ∧
      KeepsAllBut [.mode] s t := by
  have hkeep := setPanelLine_keeps n { panelLine s n with raw := v } s
  refine ⟨_, rfl, ?_⟩
  split
  · exact ⟨rfl, hkeep⟩
  · next hs =>
    have hlooked : lookedAt n s = false := by
      obtain h | h | h := h
      · exact absurd h hs
      · simp [lookedAt, h]
      · simpa [lookedAt] using fun _ => h
    simp only [hlooked, Bool.false_eq_true, if_false]
    exact ⟨by simp, hkeep.settled s⟩

/-- Settles O7: edge by edge. -/
theorem panelLinesAreTakenAndLockedOut : Obligations.PanelLinesAreTakenAndLockedOut := by
  refine ⟨fun s hs hw hl ha => ?_, fun s hs hw hl ha => ?_, fun s hs hw hl ha => ?_, fun s n hs hl => ?_, fun s n v h => ?_⟩
  · refine ⟨_, exec_edge (n := .evacIn) (l := .inactive) rfl hs hw hl (by simp [panelLine, ha]), ?_, (keeps_mode _ s).settled s⟩
    simp only [settle_frame]
    rfl
  · refine ⟨_, exec_edge (n := .holdIn) (l := .active) rfl hs hw hl (by simp [panelLine, ha]), ?_⟩
    rw [edgeTaken_holdIn_active]
    refine ⟨?_, (keeps_mode _ s).settled s⟩
    simp only [settle_frame]
    rfl
  · refine ⟨_, exec_edge (n := .holdIn) (l := .inactive) rfl hs hw hl (by simp [panelLine, ha]), ?_, (keeps_mode _ s).settled s⟩
    simp only [settle_frame]
    rfl
  · refine ⟨_, exec_panelLineLockoutExpiry hs hl, fun hr => ?_, fun hr => ?_⟩
    · rw [lookAt_unchanged (by simpa using hr)]
      exact ⟨by cases n <;> simp [setPanelLine, panelLine], (setPanelLine_keeps n _ s).settled s⟩
    · rw [lookAt_changed (by simp) (by simpa using hr)]
      simp only [panelLine_setPanelLine, setPanelLine_setPanelLine]
      refine ⟨?_, ?_, ?_, ?_, (((setPanelLine_keeps n _ s).trans (edgeTaken_keeps n _ _)).settled s).mono (by simp)⟩
      · rw [panelLine_settle, panelLine_edgeTaken, panelLine_setPanelLine]
      · rintro rfl
        rw [settle_mode, edgeTaken_evacDemand]
      · rintro rfl hraw hm
        rw [settle_mode, hraw, edgeTaken_evacIn_mode (by simpa using hm)]
      · rintro rfl hraw
        rw [settle_mode, hraw]
        rfl
  · obtain ⟨t, ht, hmode, hkeep⟩ := exec_panelLineLevelChange v h
    exact ⟨t, ht, by cases n <;> exact hmode, hkeep⟩

end Sys2Proof.Machine
end

section
/-! An EVAC_IN falling edge outside MAINT: the EVAC entry it makes, with its beats, its notices and its capture (R122, R132, R179, R180). -/

namespace Sys2Proof.Machine

/-! ### The EVAC entry -/

/-- An EVAC entry: the mode and its notice, the presentation rule, the beats, and the end of the freeze (R122). -/
def evacEntered (s : State) : State := endFreeze (restartBeats (presentAll (setMode .evac s)))

/-- An EVAC entry by EVAC_IN is followed by an EVAC_LINE capture (R179). -/
theorem changeMode_evac_line {s : State} (h : s.mode.mode ≠ .evac) : changeMode .evac true s =
    evacLineCapture (setMode .evac s) (presentAll (setMode .evac s)) (evacEntered s) := by
  simp [changeMode, h, evacEntered, Mode.endsFreeze, Mode.restartsBeats]

theorem evacEntered_notices (s : State) : (evacEntered s).notices = (setMode .evac s).notices := by simp [evacEntered]

theorem evacEntered_captures (s : State) : (evacEntered s).captures = s.captures := by simp [evacEntered]

/-- Restarted beats leave the round check as it was. -/
@[simp] theorem restartBeats_cadence_frame (s : State) :
    (restartBeats s).cadence.round = s.cadence.round ∧ (restartBeats s).cadence.missCount = s.cadence.missCount ∧
    (restartBeats s).cadence.loopOpen = s.cadence.loopOpen ∧ (restartBeats s).cadence.lateBeats = s.cadence.lateBeats := by
  dsimp only [restartBeats]
  split <;> simp [startBeatTimer, placeBeat]

/-- What a mode change may reach: of the cadence it moves the beats alone (R122). -/
theorem changeMode_keeps (m : Mode) (line : Bool) (s : State) :
    KeepsAllBut [.mode, .notices, .signs, .captures] s (changeMode m line s) := by
  intro p hp
  cases p
  case cadence =>
    dsimp only [Part.same, changeMode]
    repeat' split
    all_goals simp
  all_goals simp_all [Part.same]

/-! ### The capture -/

/-- A capture with a slot empty fills it (R180). -/
theorem storeCapture_slot {s : State} {n : Nat} (h : emptySlot s.captures.filled = some n) (c : Capture) : storeCapture c s =
    latch .captureReady n { s with captures := { s.captures with filled := s.captures.filled ++ [⟨n, c⟩] } } := by
  simp [storeCapture, h]

/-- A capture with both slots filled is lost (R180). -/
theorem storeCapture_lost {s : State} (h : emptySlot s.captures.filled = none) (c : Capture) : storeCapture c s =
    latch .captureLost (triggerCode c.trigger) { s with captures := { s.captures with overflow := true } } := by
  simp [storeCapture, h]

/-- A capture leaves every cause but its own two as it was. -/
theorem causeRec_storeCapture {s : State} (h : Tab.wf CauseRec.reset s.notices.causes = true) (c : Capture) {n : Nat} (h9 : n ≠ 9)
    (h10 : n ≠ 10) : causeRec (storeCapture c s) n = causeRec s n := by
  unfold storeCapture
  split
  · exact causeRec_latch_other .captureReady _ n _ h h9
  · exact causeRec_latch_other .captureLost _ n _ h h10

/-- The capture of an EVAC entry by EVAC_IN: its record is of the EVAC entry, whichever side its sign counts are from (log 11). -/
theorem evacLineCapture_eq (s t : State) : ∃ c : Capture, c.trigger = .evacLine ∧ c.mode = .evac ∧
    evacLineCapture (setMode .evac s) (presentAll (setMode .evac s)) t = drawn (storeCapture c t) := by
  refine ⟨_, ?_, ?_, rfl⟩
  · rfl
  · unfold captureBetween
    split <;> simp [captureOf]

/-! ### The beats -/

/-- Whether beats run is read of node addressing and Port B alone (R159). -/
theorem beatRuns_congr {s u : State} (hn : s.node = u.node) (hb : s.portB = u.portB) : beatRuns s = beatRuns u := by
  simp [beatRuns, addressed, hn, hb]

/-- Restarted beats begin at 0, with a BEAT placed where beats run (R122, R159). -/
theorem restartBeats_slot (s : State) : (restartBeats s).cadence.nextBeat = (if beatRuns s then 1 else 0) ∧
    (beatRuns s = true → (restartBeats s).cadence.slot = some 0) := by
  have hruns : beatRuns { s with cadence := { s.cadence with nextBeat := 0 } } = beatRuns s := rfl
  unfold restartBeats
  cases h : beatRuns s <;> simp [hruns, h, startBeatTimer, placeBeat]

theorem settle_cadence (b s : State) : (settle b s).cadence = (settleBeat b s).cadence := by simp [settle]

/-- At the end of a step over which the beats' conditions are the same, the beats go on, or none waits. -/
theorem settle_beats {b s : State} (h : beatRuns s = beatRuns b) : (settle b s).cadence =
    if beatRuns b then s.cadence else { s.cadence with timer := none, slot := none } := by
  rw [settle_cadence, settleBeat, h]
  split <;> simp_all

/-! ### The statement -/

section Entry

variable {s : State} (hm : s.mode.mode ≠ .evac)

include hm

/-- The beats at the end of a step that enters EVAC begin at 0, where beats run. -/
theorem settle_evac_beats (b : State) (hb : beatRuns s = beatRuns b) :
    (settle b (changeMode .evac true s)).cadence.slot = (if beatRuns b then some 0 else none) ∧
    (settle b (changeMode .evac true s)).cadence.nextBeat = (if beatRuns b then 1 else 0) := by
  have hcadence : (changeMode .evac true s).cadence = (restartBeats (presentAll (setMode .evac s))).cadence := by
    simp [changeMode_evac_line hm, evacEntered]
  have hpresent : beatRuns (presentAll (setMode .evac s)) = beatRuns b :=
    (beatRuns_congr (by simp) (by simp)).trans hb
  obtain ⟨hnext, hslot⟩ := restartBeats_slot (presentAll (setMode .evac s))
  rw [hpresent] at hnext hslot
  rw [settle_beats ((beatRuns_congr (by simp) (by simp)).trans hb), hcadence]
  split
  · next h => exact ⟨hslot h, by simpa [h] using hnext⟩
  · next h => exact ⟨rfl, by simpa [h] using hnext⟩

/-- The EVAC_LINE capture of an EVAC entry fills a slot, or is lost; MODE_CHANGED is latched with the mode before (R122, R180). -/
theorem changeMode_evac_capture (hwf : Tab.wf CauseRec.reset s.notices.causes = true) :
    ((causeRec (changeMode .evac true s) 5).latched = true ∧ (causeRec (changeMode .evac true s) 5).detail = modeCode s.mode.mode) ∧
    (∀ n, emptySlot s.captures.filled = some n → ∃ x : Capture,
      (changeMode .evac true s).captures.filled = s.captures.filled ++ [⟨n, x⟩] ∧ x.trigger = .evacLine ∧ x.mode = .evac ∧
      (changeMode .evac true s).captures.overflow = s.captures.overflow ∧
      (causeRec (changeMode .evac true s) 9).latched = true ∧ (causeRec (changeMode .evac true s) 9).detail = n) ∧
    (emptySlot s.captures.filled = none →
      (changeMode .evac true s).captures.filled = s.captures.filled ∧ (changeMode .evac true s).captures.overflow = true ∧
      (causeRec (changeMode .evac true s) 10).latched = true ∧ (causeRec (changeMode .evac true s) 10).detail = 2) := by
  obtain ⟨c, htrigger, hmode, heq⟩ := evacLineCapture_eq s (evacEntered s)
  rw [changeMode_evac_line hm, heq]
  have hentered : Tab.wf CauseRec.reset (evacEntered s).notices.causes = true := by
    rw [evacEntered_notices]
    exact latch_wf .modeChanged _ _ hwf
  have hdrawn : ∀ (t : State) n, causeRec (drawn t) n = causeRec t n := fun _ _ => rfl
  simp only [hdrawn, drawn_frame]
  refine ⟨?_, fun n hn => ⟨c, ?_⟩, fun hn => ?_⟩
  · have hchanged : causeRec (evacEntered s) 5 = causeRec (setMode .evac s) 5 := by rw [causeRec, evacEntered_notices]; rfl
    rw [causeRec_storeCapture hentered c (by decide) (by decide), hchanged]
    have hlatch := causeRec_latch_same .modeChanged (modeCode s.mode.mode) { s with mode := { s.mode with mode := .evac } } hwf
    exact ⟨congrArg CauseRec.latched hlatch, congrArg CauseRec.detail hlatch⟩
  · rw [← evacEntered_captures] at hn
    rw [storeCapture_slot hn]
    have hlatch := causeRec_latch_same .captureReady n
      { evacEntered s with captures := { (evacEntered s).captures with
        filled := (evacEntered s).captures.filled ++ [⟨n, c⟩] } } hentered
    refine ⟨?_, htrigger, hmode, ?_, congrArg CauseRec.latched hlatch, congrArg CauseRec.detail hlatch⟩
    all_goals simp [evacEntered_captures]
  · rw [← evacEntered_captures] at hn
    rw [storeCapture_lost hn, htrigger]
    have hlatch := causeRec_latch_same .captureLost 2
      { evacEntered s with captures := { (evacEntered s).captures with overflow := true } } hentered
    refine ⟨?_, ?_, congrArg CauseRec.latched hlatch, congrArg CauseRec.detail hlatch⟩
    all_goals simp [evacEntered_captures]

end Entry

theorem causeRec_settle (b s : State) (n : Nat) : causeRec (settle b s) n = causeRec s n := by simp [causeRec]

theorem settle_defaultSlot (b s : State) : (settle b s).signs.defaultSlot = s.signs.defaultSlot := by
  obtain ⟨_, _, _, _, _, hslot, _⟩ := Part.same_settle .signs b s
  exact hslot

/-- The router with EVAC_IN accepted ACTIVE: the EVAC demand set and the lockout running (R131, R132). -/
def demanded (s : State) : State := { s with mode := { s.mode with evacDemand := true, evacLine := ⟨.active, .active, some 20⟩ } }

theorem demanded_keeps (s : State) : KeepsAllBut [.mode] s (demanded s) := keeps_mode _ s

/-- A falling edge of EVAC_IN that is accepted is an EVAC cause, with the EVAC demand set. -/
theorem exec_evacInFallingEdge {s : State} (hs : s.inReset = false) (hw : s.mode.startWait = false)
    (hl : s.mode.evacLine.lockout = none) (ha : s.mode.evacLine.accepted = .inactive) :
    exec .evacInFallingEdge s = .next (settle s (evacCause true (demanded s))) :=
  exec_edge (n := .evacIn) (l := .active) rfl hs hw hl (by simp [panelLine, ha])

/-- Settles O6: outside MAINT by what an EVAC entry reaches, in MAINT by the fire path. -/
theorem evacInFallingEdgeOrdersEvac : Obligations.EvacInFallingEdgeOrdersEvac := by
  intro s hcan hs hw hl ha
  obtain ⟨_, _, _, _, _, _, _, hcauses, _⟩ := s.canonical_iff.1 hcan
  refine ⟨_, exec_evacInFallingEdge hs hw hl ha, by simp [demanded], by simp [demanded], by simp [demanded], fun hm => ?_,
    fun hm hne => ?_, fun hm => ?_, fun hm hf hn => ?_, fun hm => ?_⟩
  · rw [evacCause_entry (s := demanded s) hm]
    exact ⟨by simp, (((demanded_keeps s).trans (changeMode_keeps _ _ _)).settled s).mono (by simp)⟩
  · rw [evacCause_entry (s := demanded s) hm]
    have hne' : (demanded s).mode.mode ≠ .evac := hne
    obtain ⟨⟨hlatched, hdetail⟩, hfilled, hlost⟩ := changeMode_evac_capture hne' hcauses
    obtain ⟨hslot, hnext⟩ := settle_evac_beats hne' s rfl
    simp only [causeRec_settle, settle_frame]
    exact ⟨hlatched, hdetail, by simp [changeMode_mode hne', Mode.endsFreeze, Mode.restartsBeats], hslot, hnext, hfilled, hlost⟩
  · rw [evacCause_evac (s := demanded s) hm]
    exact (demanded_keeps s).settled s
  · rw [evacCause_maint (s := demanded s) hm, fireCause_none (s := demanded s) hf true true hn]
    have hlatch := fireNone_routeLost (s := withCause true true (demanded s)) hcauses
    have hkeep := ((demanded_keeps s).trans (withCause_keeps true true _)).trans (fireNone_keeps _)
    rw [causeRec_settle, settle_mode, settle_defaultSlot, fireNone_mode, fireNone_signs]
    exact ⟨hm, congrArg CauseRec.latched hlatch, congrArg CauseRec.detail hlatch, rfl, (hkeep.settled s).mono (by simp)⟩
  · rw [evacCause_maint (s := demanded s) hm]
    rfl

end Sys2Proof.Machine
end

section
/-! Start-up: the straps, the end of the start-up read, and the causes held or present at the end of the start wait (R134, R188). -/

namespace Sys2Proof.Machine

/-! ### What no cause at the end of the start wait moves -/

/-- What the causes taken at the end of the start wait leave as it was: the start wait, a held EVAC that is not set, the capture period
timer, the layout, the store, the solver, and whether the mode is MAINT. -/
structure StartKept (s t : State) : Prop where
  startWait : t.mode.startWait = s.mode.startWait
  heldEvac : s.mode.heldEvac = false → t.mode.heldEvac = false
  timer : t.captures.timer = s.captures.timer
  layout : t.layout = s.layout
  store : t.store = s.store
  solver : t.solver = s.solver
  maint : t.mode.mode = .maint ↔ s.mode.mode = .maint

/-- The router is in MAINT only with no layout. -/
def MaintIsBare (s : State) : Prop := s.mode.mode = .maint → s.layout = .none

theorem StartKept.refl (s : State) : StartKept s s := ⟨rfl, id, rfl, rfl, rfl, rfl, Iff.rfl⟩

theorem StartKept.trans {s t u : State} (h : StartKept s t) (k : StartKept t u) : StartKept s u :=
  ⟨k.startWait.trans h.startWait, k.heldEvac ∘ h.heldEvac, k.timer.trans h.timer, k.layout.trans h.layout, k.store.trans h.store,
    k.solver.trans h.solver, k.maint.trans h.maint⟩

theorem StartKept.bare {s t : State} (h : StartKept s t) (hs : MaintIsBare s) : MaintIsBare t := fun hm => by
  rw [h.layout]
  exact hs (h.maint.1 hm)

/-- A capture leaves the period timer as it was. -/
@[simp] theorem storeCapture_timer (c : Capture) (s : State) : (storeCapture c s).captures.timer = s.captures.timer := by
  unfold storeCapture
  split <;> simp

/-- A mode change leaves the period timer as it was. -/
@[simp] theorem changeMode_timer (m : Mode) (line : Bool) (s : State) :
    (changeMode m line s).captures.timer = s.captures.timer := by
  dsimp only [changeMode]
  repeat' split
  all_goals simp [evacLineCapture]

theorem startKept_changeMode {m : Mode} {s : State} (hm : m ≠ .maint) (hs : s.mode.mode ≠ .maint) (line : Bool) :
    StartKept s (changeMode m line s) := by
  constructor <;> simp [hm, hs]

/-- With no layout a fire cause stays in MAINT (R129). -/
theorem startKept_fireCause {s : State} (hs : s.layout = .none) (evac line : Bool) : StartKept s (fireCause evac line s) := by
  cases hw : s.mode.fireWaiting
  · rw [fireCause_none hw evac line hs]
    constructor <;> simp [fireNone_mode, withCause]
  · rw [fireCause_waiting hw]
    constructor <;> simp

theorem startKept_evacCause {s : State} (hs : MaintIsBare s) (line : Bool) : StartKept s (evacCause line s) := by
  by_cases hm : s.mode.mode = .maint
  · rw [evacCause_maint hm]
    exact startKept_fireCause (hs hm) true line
  · rw [evacCause_entry hm]
    exact startKept_changeMode (by decide) hm line

theorem startKept_escalationAtMode {s : State} (hs : MaintIsBare s) (x : ZoneState) : StartKept s (escalationAtMode x s) := by
  unfold escalationAtMode
  split
  · exact .refl s
  · split
    · exact startKept_evacCause hs false
    · split
      case h_1 hm | h_2 hm => exact startKept_changeMode (by decide) (by simp [hm]) false
      case h_3 | h_4 => exact .refl s
      case h_5 hm => exact startKept_fireCause (hs hm) false false

theorem startKept_changeAtMode (z : Nat) (x : ZoneState) (s : State) : StartKept s (changeAtMode z x s) := by
  unfold changeAtMode
  split
  · exact .refl s
  · split
    case h_4 | h_5 => exact .refl s
    case h_1 hm | h_2 hm =>
      split
      · exact startKept_changeMode (by decide) (by simp [hm]) false
      · exact .refl s
    case h_3 hm =>
      split
      · exact .refl s
      · exact startKept_changeMode (by decide) (by simp [hm]) false

theorem startKept_setPanelLine (n : PanelLineName) (p : PanelLine) (s : State) : StartKept s (setPanelLine n p s) := by
  cases n <;> constructor <;> simp [setPanelLine]

theorem startKept_edgeTaken {s : State} (hs : MaintIsBare s) (n : PanelLineName) (l : Level) : StartKept s (edgeTaken n l s) := by
  have hdemand : ∀ b, StartKept s { s with mode := { s.mode with evacDemand := b } } := fun b => by constructor <;> simp
  match n, l with
  | .evacIn, .active => exact (hdemand true).trans (startKept_evacCause ((hdemand true).bare hs) true)
  | .evacIn, .inactive => exact hdemand false
  | .holdIn, .active =>
    rw [edgeTaken_holdIn_active]
    constructor <;> simp
  | .holdIn, .inactive => constructor <;> simp [edgeTaken]

theorem startKept_lookAt {s : State} (hs : MaintIsBare s) (n : PanelLineName) : StartKept s (lookAt n s) := by
  dsimp only [lookAt]
  split
  · have hline := startKept_setPanelLine n ⟨(panelLine s n).raw, (panelLine s n).raw, millis Config.lockoutMs⟩ s
    exact hline.trans (startKept_edgeTaken (hline.bare hs) n _)
  · exact .refl s

theorem startKept_takeHeldEvac {s : State} (hs : MaintIsBare s) : StartKept s (takeHeldEvac s) := by
  unfold takeHeldEvac
  split
  · obtain ⟨hwait, _, htimer, hlayout, hstore, hsolver, hmaint⟩ := startKept_evacCause hs false
    exact ⟨hwait, fun _ => rfl, htimer, hlayout, hstore, hsolver, hmaint⟩
  · exact .refl s

/-- A held EVAC is cleared as it is taken (R134). -/
theorem takeHeldEvac_heldEvac (s : State) : (takeHeldEvac s).mode.heldEvac = false := by
  unfold takeHeldEvac
  split
  · rfl
  · next h => simpa using h

theorem startKept_takeZoneState {s : State} (hs : MaintIsBare s) (z : Nat) : StartKept s (takeZoneState s z) := by
  unfold takeZoneState
  split
  case h_1 | h_2 => exact startKept_escalationAtMode hs _
  case h_3 => exact startKept_changeAtMode _ _ s
  case h_4 | h_5 | h_6 => exact .refl s

theorem startKept_takeZoneStates {s : State} (hs : MaintIsBare s) (zs : List Nat) : StartKept s (zs.foldl takeZoneState s) := by
  induction zs generalizing s with
  | nil => exact .refl s
  | cons z zs ih =>
    have hz := startKept_takeZoneState hs z
    exact hz.trans (ih (hz.bare hs))

/-- The causes at the end of the start wait, taken in their order (R134). -/
theorem startKept_takeStartCauses {s : State} (hs : MaintIsBare s) :
    StartKept s (takeStartCauses s) ∧ (takeStartCauses s).mode.heldEvac = false := by
  have hheld := startKept_takeHeldEvac hs
  have hevac := startKept_lookAt (hheld.bare hs) .evacIn
  have hzones := startKept_takeZoneStates (hevac.bare (hheld.bare hs)) (List.range Config.zoneCount)
  have hhold := startKept_lookAt (hzones.bare (hevac.bare (hheld.bare hs))) .holdIn
  have hrest := (hevac.trans hzones).trans hhold
  unfold takeStartCauses
  exact ⟨hheld.trans hrest, hrest.heldEvac (takeHeldEvac_heldEvac s)⟩

/-! ### No cause held or present -/

/-- A zone that is not WATCH, SMOKE or DENSE is no cause. -/
theorem takeZoneState_none {s : State} {z : Nat} (h : zoneState s z ≠ .watch ∧ zoneState s z ≠ .smoke ∧ zoneState s z ≠ .dense) :
    takeZoneState s z = s := by
  unfold takeZoneState
  split <;> simp_all

/-- With no cause held or present the end of the start wait leaves the router as it is. -/
theorem takeStartCauses_none {s : State} (hheld : s.mode.heldEvac = false) (hevac : s.mode.evacLine.raw = s.mode.evacLine.accepted)
    (hhold : s.mode.holdLine.raw = s.mode.holdLine.accepted)
    (hz : ∀ z, z < 64 → zoneState s z ≠ .watch ∧ zoneState s z ≠ .smoke ∧ zoneState s z ≠ .dense) : takeStartCauses s = s := by
  have hzones : ∀ zs : List Nat, (∀ z ∈ zs, z < 64) → zs.foldl takeZoneState s = s := fun zs => by
    induction zs with
    | nil => simp
    | cons z zs ih =>
      intro hlt
      rw [List.foldl_cons, takeZoneState_none (hz z (hlt z (by simp))), ih fun y hy => hlt y (by simp [hy])]
  have htake : takeHeldEvac s = s := by simp [takeHeldEvac, hheld]
  rw [takeStartCauses, htake, lookAt_unchanged (n := .evacIn) hevac, hzones _ fun z hz => List.mem_range.1 hz,
    lookAt_unchanged (n := .holdIn) hhold]

/-! ### The tables, and the end of the start wait -/

theorem activate_layout (s : State) : (activate s).layout = .active := by simp [activate]

theorem activate_phase (s : State) : (activate s).solver.phase = .take := rfl

theorem takeImage_tables (s : State) : (takeImage s).tables = s.store.image := by simp [takeImage]

/-- The end of the start wait: the tables as read, the mode, and the capture period timer (R134, R179). -/
def startWaitEnded (valid : Bool) (s : State) : State :=
  startCaptureTimer (endStartWait (if valid then startModeOf (startUpTables valid s).tables.params else .maint) (startUpTables valid s))

theorem exec_startUpReadEnd {s : State} (hs : s.inReset = false) (h : s.store.op = .startUpRead) (ok : Bool) :
    exec (.startUpReadEnd ok) s = .next (settle s (takeStartCauses (startWaitEnded (imageValid s.store ok) s))) := by
  refine (run_running s _ hs).trans ?_
  rw [if_pos h]
  rfl

/-- A valid image is loaded and activated (R188). -/
theorem startUpTables_valid (s : State) : (startUpTables true s).tables = s.store.image ∧ (startUpTables true s).layout = .active ∧
    (startUpTables true s).solver.phase = .take ∧ (startUpTables true s).store = { s.store with op := .idle, valid := true } := by
  simp [startUpTables, activate_layout, activate_phase, takeImage_tables]

/-- An image that is not valid leaves the tables as they were (R188). -/
theorem startUpTables_invalid (s : State) : startUpTables false s = storeIdle false s := rfl

/-- The mode controller and the capture period timer at the end of the start wait. -/
theorem startWaitEnded_mode (valid : Bool) (s : State) : (startWaitEnded valid s).mode =
    { s.mode with mode := if valid then startModeOf (startUpTables valid s).tables.params else .maint, startWait := false } := by
  simp [startWaitEnded, endStartWait]

/-- What the end of the start-up read may reach. -/
theorem startWaitEnded_keeps (valid : Bool) (s : State) :
    KeepsAllBut [.tables, .layout, .store, .hazard, .solver, .signs, .boundaries, .mode, .captures] s (startWaitEnded valid s) := by
  intro p hp
  cases p <;> simp_all [Part.same, startWaitEnded]

theorem takeStartCauses_keeps (s : State) :
    KeepsAllBut [.layout, .store, .solver, .signs, .mode, .cadence, .notices, .captures, .counters] s (takeStartCauses s) := by
  intro p hp
  cases p <;> simp_all [Part.same]

theorem startModeOf_ne_maint (p : Params) : startModeOf p ≠ .maint := by
  unfold startModeOf
  split <;> simp

/-- The start mode stands with a layout activated, MAINT with none. -/
theorem startWaitEnded_bare {valid : Bool} {s : State} (hl : s.layout = .none) : MaintIsBare (startWaitEnded valid s) := fun hm => by
  cases valid
  · simpa [startWaitEnded, startUpTables_invalid] using hl
  · exact absurd (by simpa [startWaitEnded_mode] using hm) (startModeOf_ne_maint _)

/-! ### The statement -/

/-- The straps are taken and the blocks released (R145, R188). -/
theorem exec_startUp {s : State} (hs : s.inReset = true) (straps : Byte) : exec (.startUp straps) s =
    .next (settle s { s with inReset := false, node := { s.node with straps := straps, address := strapAddress straps } }) :=
  congrArg Host.Outcome.next (if_pos hs)

/-- The mode with no cause held or present: that of the start mode parameter of the image, or MAINT. -/
theorem startWaitEnded_mode_mode (valid : Bool) (s : State) : (startWaitEnded valid s).mode.mode =
    if valid = true then (if s.store.image.params.startMode = 0 then .quiet else .standby) else .maint := by
  rw [startWaitEnded_mode]
  cases valid
  · rfl
  · obtain ⟨htables, _⟩ := startUpTables_valid s
    simp only [if_true, htables, startModeOf]

/-- The parts of the end of the start-up read with a valid image. -/
theorem startWaitEnded_valid (s : State) : (startWaitEnded true s).tables = s.store.image ∧
    (startWaitEnded true s).layout = .active ∧ (startWaitEnded true s).solver.phase = .take := by
  obtain ⟨htables, hlayout, hphase, _⟩ := startUpTables_valid s
  simp [startWaitEnded, htables, hlayout, hphase]

/-- The store at the end of the start-up read. -/
theorem startWaitEnded_store (valid : Bool) (s : State) :
    (startWaitEnded valid s).store = { s.store with op := .idle, valid := valid } := by
  cases valid
  · simp [startWaitEnded, startUpTables_invalid]
  · obtain ⟨_, _, _, hstore⟩ := startUpTables_valid s
    simp [startWaitEnded, hstore]

/-- The capture period timer starts with the period loaded (R179). -/
theorem startWaitEnded_timer (valid : Bool) (s : State) : (startWaitEnded valid s).captures.timer =
    if 10 ≤ (startWaitEnded valid s).tables.params.capturePeriod
    then some ((startWaitEnded valid s).tables.params.capturePeriod * 1000) else none := rfl

/-- Settles O4: what the read leaves, and what the causes taken then do not move. -/
theorem startUpReadsStrapsAndImage : Obligations.StartUpReadsStrapsAndImage := by
  refine ⟨fun s straps hs => ⟨_, exec_startUp hs straps, ?_⟩, fun s ok hs hop hl => ⟨_, exec_startUpReadEnd hs hop ok, ?_⟩⟩
  · have hkeep : KeepsAllBut [.inReset, .node] s
        { s with inReset := false, node := { s.node with straps := straps, address := strapAddress straps } } := by
      intro p hp
      cases p <;> simp_all [Part.same]
    simp only [settle_frame]
    exact ⟨trivial, trivial, rfl, trivial, trivial, hkeep.settled s⟩
  · generalize hvalid : imageValid s.store ok = valid
    obtain ⟨hkept, hheld⟩ := startKept_takeStartCauses (startWaitEnded_bare (valid := valid) hl)
    have hkeep := (startWaitEnded_keeps valid s).trans (takeStartCauses_keeps (startWaitEnded valid s))
    have hzone : ∀ t u z, zoneState (settle t (takeStartCauses u)) z = zoneState u z := fun t u z => by simp [zoneState, zoneRt]
    simp only [settle_frame, takeStartCauses_frame, hzone, hkept.startWait, hkept.timer, hkept.store, hkept.layout, hkept.solver]
    refine ⟨by rw [startWaitEnded_mode], hheld, startWaitEnded_store valid s, ?_, ?_, fun h he hh hz => ?_,
      startWaitEnded_timer valid s, (hkeep.settled s).mono (by simp)⟩
    · rintro rfl
      exact startWaitEnded_valid s
    · rintro rfl
      refine ⟨rfl, hl, rfl, hkept.maint.2 (startWaitEnded_mode_mode false s)⟩
    · have hmode := startWaitEnded_mode valid s
      rw [takeStartCauses_none (by simpa [hmode] using h) (by simpa [hmode] using he) (by simpa [hmode] using hh) hz,
        startWaitEnded_mode_mode]

end Sys2Proof.Machine
end
